-- ==== Sys2Proof/Word.lean ====
section
/-! DEFINITION. The word types of the frames, and their plainest arithmetic. -/
namespace Sys2Proof

/-- A 32-bit word: an argument or answer word of a service frame, or the value of a slot (R203). -/
abbrev Word := BitVec 32

/-- One byte of a frame (R203). -/
abbrev Byte := BitVec 8

/-- A handshake serial (stroke, paste, cut): it wraps modulo 256 (R45, R83, R134). -/
abbrev Serial8 := BitVec 8

/-- A segment serial: it wraps modulo 2¹⁶ (R64). -/
abbrev SegSerial := BitVec 16

/-- A number as a word, modulo 2³². -/
abbrev word (n : Nat) : Word := BitVec.ofNat 32 n

/-- A flag as a number, 0 or 1 (R206). -/
def bit (b : Bool) : Nat := if b then 1 else 0

end Sys2Proof
end

