-- ==== Sys2Proof/Syntax.lean ====
section
/-! DEFINITION. The commands the part takes: one constructor of `Instr` for each row of
spec/opcode_table.json, and the frames and pin levels they carry. -/
namespace Sys2Proof

/-- One slot of a cycle frame, seven bytes, field by field (R203). -/
structure Slot where
  /-- byte 0, bits 5–0 -/
  index : BitVec 6
  /-- byte 0, bit 6: 0 SAMPLE, 1 COMMAND -/
  command : Bool
  /-- byte 0, bit 7 -/
  toggle : Bool
  /-- byte 1 -/
  nodeKind : Byte
  /-- byte 2, bit 0: 0 OK, 1 NODE_FAULT -/
  nodeFault : Bool
  /-- byte 2, bits 6–1, zero in a good slot -/
  reserved : BitVec 6
  /-- byte 2, bit 7 -/
  parity : Bool
  /-- bytes 3–6 -/
  value : Word
  deriving DecidableEq, Repr

/-- A cycle frame less its kind byte, slot count and frame check (R203). -/
structure CycleFrame where
  /-- bytes 2–3 -/
  cycle : BitVec 16
  /-- bytes 4–7, the master speed request, signed -/
  speed : Word
  /-- the slots in frame order -/
  slots : List Slot
  deriving DecidableEq, Repr

/-- A service frame less its kind byte and frame check (R203). -/
structure ServiceFrame where
  /-- byte 1, bits 6–0 -/
  dest : BitVec 7
  /-- byte 1, bit 7 -/
  destTop : Bool
  /-- byte 2 -/
  code : Byte
  /-- byte 3 -/
  argCount : Byte
  /-- byte 4 -/
  answerCode : Byte
  /-- byte 5 -/
  reason : Byte
  /-- byte 6 -/
  answerCount : Byte
  /-- byte 7 -/
  byte7 : Byte
  /-- bytes 8–11 -/
  detail : Word
  /-- bytes 12–75, argument words 0–15 -/
  args : List Word
  /-- bytes 76–139, answer words 0–15 -/
  answers : List Word
  deriving DecidableEq, Repr

/-- What a request's service frame brings to the part: the argument words its argument count covers, and
the parts that are forwarded as they arrived (R199). -/
structure Request where
  /-- argument words 0 to count − 1 -/
  args : List Word
  /-- the argument words the count does not cover -/
  rest : List Word
  /-- byte 1, bit 7 -/
  destTop : Bool
  /-- byte 7 -/
  byte7 : Byte
  deriving DecidableEq, Repr

/-- The status of the blade node, coded by position (R204). -/
inductive BladeStatus where
  | ready | busy | parked | fault
  deriving DecidableEq, Repr

/-- The two trip inputs (R179). -/
inductive TripInput where
  | estop | guard
  deriving DecidableEq, Repr

/-- The commands of the part, one constructor for each row of spec/opcode_table.json. A number `e` is an
elapsed count in ring cycles (R8). -/
inductive Instr where
  /-- FULL_RESET (R209): the address straps, and the trip inputs' levels as found when it ends (R179). -/
  | fullReset (address : BitVec 7) (estop guard : Bool)
  /-- RING_BYPASS_RELEASE (R209). -/
  | ringBypassRelease
  /-- TRIP_INPUT_CHANGE (R179): the filtered level of one trip input, true for asserted. -/
  | tripInputChange (input : TripInput) (asserted : Bool)
  /-- CYCLE_FRAME (R194): a well-formed cycle frame whose check is right. -/
  | cycleFrame (f : CycleFrame)
  /-- FRAME_CHECK_ERROR (R193): the bytes of a damaged frame of kind 1 or 2, received whole. -/
  | frameCheckError (bytes : List Byte)
  /-- FRAME_TRUNCATED (R192). -/
  | frameTruncated
  /-- OTHER_KIND_FRAME (R192): the bytes of a frame whose kind is neither 1 nor 2. -/
  | otherKindFrame (bytes : List Byte)
  /-- SERVICE_FRAME_FORWARD (R199): a service frame for another node, or already answered. -/
  | serviceFrameForward (f : ServiceFrame)
  /-- UNKNOWN_REQUEST (R199): a request code the table of R200 does not name. -/
  | unknownRequest (code : Byte) (r : Request)
  /-- ARGUMENT_COUNT_MALFORMED (R199): an argument count above 16; `rest` holds the sixteen words. -/
  | argumentCountMalformed (code count : Byte) (r : Request)
  /-- IDENTIFY (R201). -/
  | identify (r : Request)
  /-- SET_MODE (R155). -/
  | setMode (r : Request)
  /-- LINE_RESET (R167). -/
  | lineReset (r : Request)
  /-- WRITE_LINE_PARAM (R2). -/
  | writeLineParam (r : Request)
  /-- READ_LINE_PARAM (R4). -/
  | readLineParam (r : Request)
  /-- APPLY_LINE (R5). -/
  | applyLine (r : Request)
  /-- WRITE_SIGNAL (R170). -/
  | writeSignal (r : Request)
  /-- READ_SIGNAL (R171). -/
  | readSignal (r : Request)
  /-- WRITE_CLASS (R90). -/
  | writeClass (r : Request)
  /-- READ_CLASS (R91). -/
  | readClass (r : Request)
  /-- OPEN_SLOT (R24). -/
  | openSlot (r : Request)
  /-- WRITE_ENTRIES (R25). -/
  | writeEntries (r : Request)
  /-- CLOSE_SLOT (R26). -/
  | closeSlot (r : Request)
  /-- RELEASE_SLOT (R34). -/
  | releaseSlot (r : Request)
  /-- READ_SLOT (R35). -/
  | readSlot (r : Request)
  /-- PLAN_PANEL (R66). -/
  | planPanel (r : Request)
  /-- CANCEL_PANEL (R68). -/
  | cancelPanel (r : Request)
  /-- ABORT_PANEL (R56). -/
  | abortPanel (r : Request)
  /-- SET_ACTIVE_STAND (R131). -/
  | setActiveStand (r : Request)
  /-- START_ROLL_CHANGE (R136). -/
  | startRollChange (r : Request)
  /-- CANCEL_ROLL_CHANGE (R137). -/
  | cancelRollChange (r : Request)
  /-- WRITE_REACTION (R183). -/
  | writeReaction (r : Request)
  /-- READ_REACTION (R184). -/
  | readReaction (r : Request)
  /-- ACK_REACTION (R189). -/
  | ackReaction (r : Request)
  /-- ACK_TRIP (R180). -/
  | ackTrip (r : Request)
  /-- READ_VIEW (R202). -/
  | readView (r : Request)
  /-- READ_COMPLETIONS (R86). -/
  | readCompletions (r : Request)
  /-- READ_FAULTS (R214). -/
  | readFaults (r : Request)
  /-- CLEAR_FAULTS (R215). -/
  | clearFaults (r : Request)
  /-- CYCLE_TIMEOUT (R198): the local timer expires. -/
  | cycleTimeout
  /-- STROKE_COMPLETE (R51): a fresh BLADE_STATE sample. -/
  | strokeComplete (status : BladeStatus) (done : Serial8)
  /-- STROKE_TIMEOUT (R52): one used frame's age count. -/
  | strokeTimeout
  /-- PASTE_CONFIRM (R145): a fresh SPLICE_STATE sample. -/
  | pasteConfirm (paste cut : Serial8)
  /-- PASTE_TIMEOUT (R145): one used frame's age count. -/
  | pasteTimeout
  /-- CUT_CONFIRM (R146): a fresh SPLICE_STATE sample. -/
  | cutConfirm (paste cut : Serial8)
  /-- CUT_TIMEOUT (R146): one used frame's age count. -/
  | cutTimeout
  /-- SETTLE_END (R147): a used frame's settle count. -/
  | settleEnd (e : Nat)
  /-- MATCH_TIMEOUT (R142): a used frame's match timer. -/
  | matchTimeout (e : Nat)
  /-- PURGE_END (R187): a used frame's purge countdown. -/
  | purgeEnd (e : Nat)
  /-- WARMUP_FINISH (R109): a used frame's warm-up judgement. -/
  | warmupFinish (e : Nat)
  /-- WARMUP_TIMEOUT (R110): a used frame's warm-up judgement. -/
  | warmupTimeout (e : Nat)
  /-- STANDBY_WARNING (R107): a used frame's standby count. -/
  | standbyWarning (e : Nat)
  /-- STANDBY (R107): a used frame's standby count. -/
  | standby (e : Nat)
  /-- SIGNAL_LOSS (R174): a used frame without a fresh sample of this signal. -/
  | signalLoss (signal : Nat)
  /-- RING_ERR_WINDOW_END (R178): a used frame's window count. -/
  | ringErrWindowEnd (e : Nat)
  /-- WINDOW_RESERVATION (R74): ROLL asks PLAN again in ARMED. -/
  | windowReservation
  /-- RESET_NOTICE_END (R197): a forwarded cycle frame's reset notice. -/
  | resetNoticeEnd
  deriving DecidableEq, Repr

end Sys2Proof
end

