-- ==== Sys2Proof/Decode.lean ====
section
/-! DEFINITION. The decoder of table words. No row of spec/opcode_table.json gives bits ("fields" is empty and
there is no "fixed"), so no word spells a command. How bytes on RING IN become commands is
`Machine.receive` (Machine/Frames.lean). -/
namespace Sys2Proof

/-- The command a table word spells: none, since the table gives no row any bits. -/
def decodeTableWord (_nbits _w : Nat) : Option Instr := none

end Sys2Proof
end

