-- ==== Sys2Proof/Machine/Frames.lean ====
section
/-! DEFINITION. Frames as bytes: the frame check (R193), the layouts of R203, the parity of a slot (R195),
and how RING tells the frames it receives apart (R192, R193, R199). -/
namespace Sys2Proof.Machine

/-! ### Frame check -/

/-- One bit of the cyclic check: generator x¹⁶ + x¹² + x⁵ + 1, most significant bit first (R193). -/
def crcShift (c : BitVec 16) : BitVec 16 :=
  if c.msb then (c <<< 1) ^^^ 0x1021#16 else c <<< 1

/-- One byte of the cyclic check (R193). -/
def crcByte (c : BitVec 16) (b : Byte) : BitVec 16 :=
  let c := c ^^^ (b ++ 0#8)
  crcShift (crcShift (crcShift (crcShift (crcShift (crcShift (crcShift (crcShift c)))))))

/-- The frame check of the bytes before it: starting value all ones, no final inversion (R193). -/
def frameCheck (body : List Byte) : BitVec 16 := body.foldl crcByte 0xFFFF#16

/-- A 16-bit field as bytes, most significant first (10 Layouts). -/
def bytes16 (v : BitVec 16) : List Byte := [v.extractLsb' 8 8, v.extractLsb' 0 8]

/-- A 32-bit field as bytes, most significant first (10 Layouts). -/
def bytes32 (v : Word) : List Byte :=
  [v.extractLsb' 24 8, v.extractLsb' 16 8, v.extractLsb' 8 8, v.extractLsb' 0 8]

/-- A body with its frame check behind it (R193). -/
def withCheck (body : List Byte) : List Byte := body ++ bytes16 (frameCheck body)

/-- A damaged frame as it is forwarded: its bytes as received and its check replaced by the complement of the
correct one (R193). A frame too short to hold a check leaves as it arrived (DESIGN CHOICE,
notes/assumptions/17.md). -/
def withSpoiledCheck (bytes : List Byte) : List Byte :=
  if bytes.length < 2 then bytes
  else
    let body := bytes.take (bytes.length - 2)
    body ++ bytes16 (~~~ frameCheck body)

/-! ### Slots -/

/-- A slot's seven bytes (R203). -/
def slotBytes (s : Slot) : List Byte :=
  [BitVec.ofBool s.toggle ++ BitVec.ofBool s.command ++ s.index,
   s.nodeKind,
   BitVec.ofBool s.parity ++ s.reserved ++ BitVec.ofBool s.nodeFault] ++ bytes32 s.value

/-- A slot read from its seven bytes (R203). -/
def slotOfBytes (b0 b1 b2 b3 b4 b5 b6 : Byte) : Slot :=
  { index := b0.extractLsb' 0 6, command := b0.getLsbD 6, toggle := b0.getLsbD 7, nodeKind := b1,
    nodeFault := b2.getLsbD 0, reserved := b2.extractLsb' 1 6, parity := b2.getLsbD 7,
    value := b3 ++ b4 ++ b5 ++ b6 }

/-- The slots held in a run of bytes, seven bytes each (R203). -/
def slotsOfBytes : List Byte → List Slot
  | b0 :: b1 :: b2 :: b3 :: b4 :: b5 :: b6 :: rest =>
    slotOfBytes b0 b1 b2 b3 b4 b5 b6 :: slotsOfBytes rest
  | _ => []

/-- The number of one bits of a byte. -/
def onesOfByte (b : Byte) : Nat := ((List.range 8).filter (fun i => b.getLsbD i)).length

/-- The number of one bits over a slot's 56 bits (R195). -/
def slotOnes (s : Slot) : Nat := ((slotBytes s).map onesOfByte).sum

/-- A slot with a SLOT_PARITY error at this position of the frame (R195). -/
def slotDamaged (position : Nat) (s : Slot) : Bool :=
  slotOnes s % 2 == 1 || s.reserved != 0 || s.index.toNat != position

/-- A command slot as RING writes it: value, toggle, node status OK and even parity; index, kind and node kind
as they arrived (R196). -/
def slotWritten (s : Slot) (value : Word) (toggle : Bool) : Slot :=
  let w := { s with value := value, toggle := toggle, nodeFault := false, parity := false }
  { w with parity := slotOnes w % 2 == 1 }

/-! ### Cycle frames -/

/-- A cycle frame's bytes before its frame check (R203). -/
def cycleBody (f : CycleFrame) : List Byte :=
  [1#8, BitVec.ofNat 8 f.slots.length] ++ bytes16 f.cycle ++ bytes32 f.speed ++ f.slots.flatMap slotBytes

/-- A cycle frame's bytes, the frame check last (R203). -/
def cycleBytes (f : CycleFrame) : List Byte := withCheck (cycleBody f)

/-- The cycle frame read from its bytes (R203). -/
def cycleOfBytes : List Byte → CycleFrame
  | _ :: c :: n1 :: n0 :: s3 :: s2 :: s1 :: s0 :: rest =>
    { cycle := n1 ++ n0, speed := s3 ++ s2 ++ s1 ++ s0, slots := slotsOfBytes (rest.take (7 * c.toNat)) }
  | _ => { cycle := 0, speed := 0, slots := [] }

/-! ### Service frames -/

/-- The words held in a run of bytes, four bytes each (R203). -/
def wordsOfBytes : List Byte → List Word
  | b3 :: b2 :: b1 :: b0 :: rest => (b3 ++ b2 ++ b1 ++ b0) :: wordsOfBytes rest
  | _ => []

/-- A service frame's bytes before its frame check (R203). -/
def serviceBody (f : ServiceFrame) : List Byte :=
  [2#8, BitVec.ofBool f.destTop ++ f.dest, f.code, f.argCount, f.answerCode, f.reason, f.answerCount, f.byte7]
    ++ bytes32 f.detail ++ f.args.flatMap bytes32 ++ f.answers.flatMap bytes32

/-- A service frame's bytes, the frame check last (R203). -/
def serviceBytes (f : ServiceFrame) : List Byte := withCheck (serviceBody f)

/-- The service frame read from its bytes (R203). -/
def serviceOfBytes : List Byte → ServiceFrame
  | _ :: d :: code :: n :: ans :: reason :: m :: b7 :: d3 :: d2 :: d1 :: d0 :: rest =>
    { dest := d.extractLsb' 0 7, destTop := d.getLsbD 7, code := code, argCount := n, answerCode := ans,
      reason := reason, answerCount := m, byte7 := b7, detail := d3 ++ d2 ++ d1 ++ d0,
      args := wordsOfBytes (rest.take 64), answers := wordsOfBytes ((rest.drop 64).take 64) }
  | _ =>
    { dest := 0, destTop := false, code := 0, argCount := 0, answerCode := 0, reason := 0, answerCount := 0,
      byte7 := 0, detail := 0, args := [], answers := [] }

/-! ### Telling frames apart -/

/-- A frame of kind 1 or 2 is well formed by its length and slot count (R192). -/
def wellFormedBytes : List Byte → Bool
  | k :: c :: rest =>
    if k = 1#8 then decide (1 ≤ c.toNat ∧ c.toNat ≤ 64 ∧ rest.length + 2 = 10 + 7 * c.toNat)
    else decide (k = 2#8 ∧ rest.length + 2 = 142)
  | _ => false

/-- The last two bytes are the check of the bytes before them (R193). -/
def checkGood (bytes : List Byte) : Bool :=
  bytes.drop (bytes.length - 2) == bytes16 (frameCheck (bytes.take (bytes.length - 2)))

/-- The request a code names (R200). -/
def requestOfCode (code : Nat) : Option (Request → Instr) :=
  match code with
  | 1 => some .identify
  | 2 => some .setMode
  | 3 => some .lineReset
  | 4 => some .writeLineParam
  | 5 => some .readLineParam
  | 6 => some .applyLine
  | 7 => some .writeSignal
  | 8 => some .readSignal
  | 9 => some .writeClass
  | 10 => some .readClass
  | 11 => some .openSlot
  | 12 => some .writeEntries
  | 13 => some .closeSlot
  | 14 => some .releaseSlot
  | 15 => some .readSlot
  | 16 => some .planPanel
  | 17 => some .cancelPanel
  | 18 => some .abortPanel
  | 19 => some .setActiveStand
  | 20 => some .startRollChange
  | 21 => some .cancelRollChange
  | 22 => some .writeReaction
  | 23 => some .readReaction
  | 24 => some .ackReaction
  | 25 => some .ackTrip
  | 26 => some .readView
  | 27 => some .readCompletions
  | 28 => some .readFaults
  | 29 => some .clearFaults
  | _ => none

/-- The command a service frame with a good check brings to a part of this ring address (R199). -/
def serviceCommand (address : BitVec 7) (f : ServiceFrame) : Instr :=
  if f.dest ≠ address ∨ f.answerCode ≠ 0 then .serviceFrameForward f
  else if f.argCount.toNat > 16 then
    .argumentCountMalformed f.code f.argCount
      { args := [], rest := f.args, destTop := f.destTop, byte7 := f.byte7 }
  else
    let r : Request :=
      { args := f.args.take f.argCount.toNat, rest := f.args.drop f.argCount.toNat,
        destTop := f.destTop, byte7 := f.byte7 }
    match requestOfCode f.code.toNat with
    | some c => c r
    | none => .unknownRequest f.code r

/-- The command that a frame received whole on RING IN brings to a part of this ring address
(R192, R193, R199; frames as operands: DESIGN CHOICE, notes/assumptions/28.md). -/
def receive (address : BitVec 7) (bytes : List Byte) : Instr :=
  match bytes with
  | [] => .frameTruncated
  | k :: _ =>
    if k ≠ 1#8 ∧ k ≠ 2#8 then .otherKindFrame bytes
    else if !wellFormedBytes bytes || !checkGood bytes then .frameCheckError bytes
    else if k = 1#8 then .cycleFrame (cycleOfBytes bytes)
    else serviceCommand address (serviceOfBytes bytes)

end Sys2Proof.Machine
end

