-- ==== Sys2Proof/Config.lean ====
section
/-! DEFINITION. What one implementation fixes: the identification words and the bounds of the part's
tables, and the one value the spec leaves open. -/
namespace Sys2Proof.Config

/-- IDENTIFY, answer word 0: the vendor code (R201). -/
def vendorCode : Nat := 86

/-- IDENTIFY, answer word 1: the part number (R201). -/
def partNumber : Nat := 4620

/-- IDENTIFY, answer word 2: the silicon revision code. The spec names revision B (00_scope.md) and gives
its code no number, so it is a free value: nothing here fixes it.
DESIGN CHOICE, safe (notes/assumptions/7.md). -/
opaque siliconRevision : Word

/-- Places of the plan (R63, R64). -/
def planPlaces : Nat := 32

/-- The plan's bound at PLAN_PANEL (R64). -/
def planPanelBound : Nat := 24

/-- The plan's bound at a window reservation and at a remake (R64). -/
def planReserveBound : Nat := 28

/-- Entries of the completion log (R85). -/
def logPlaces : Nat := 32

/-- Entries of the fault history (R212). -/
def historyPlaces : Nat := 16

/-- Where cycle counts of HEAT saturate (R95, R107, R109) and the ms of a completion entry (R84). -/
def cycleCountMax : Nat := 16777215

/-- The largest fine position: integer part 2⁴⁸ − 1, fraction 65,535 (R16). -/
def finePositionMax : Nat := 18446744073709551615

/-- Where a reverse excess saturates: 2⁶⁴ − 1 (R12). -/
def reverseExcessMax : Nat := 18446744073709551615

/-- The feed command's saturation, feed wu/s (R124). -/
def feedCommandMax : Nat := 200000

end Sys2Proof.Config
end

