-- ==== Sys2Proof/Machine/State.lean ====
section
/-! DEFINITION. The state of the part, block by block as spec/00_scope.md (Blocks) lists the owners, and the
state right after Full reset. Plain data throughout. -/
namespace Sys2Proof.Machine

/-! ### Line table (R1) -/

/-- The table's state, coded UNSET 0, EDIT 1, SET 2 (R1, R201). -/
inductive TableState where
  | unset | edit | set
  deriving DecidableEq, Repr

/-- The line table (R1): parameter n stands at index n − 1 of each image (R3). -/
structure LineTable where
  state : TableState
  edit : List Nat
  applied : List Nat
  applyDetail : Option Nat
  deriving DecidableEq, Repr

/-! ### POS (R8 to R17) -/

/-- One encoder's tracking state (R9 to R16). `fine` counts 1/65,536 wu: integer part and fraction in one. -/
structure Encoder where
  fine : Nat
  excess : Nat
  baseline : Word
  valid : Bool
  since : Nat
  jumpOpen : Bool
  saturated : Bool
  deriving DecidableEq, Repr

/-- The Position Tracker: the time base (R8) and the two encoders. -/
structure Pos where
  lastCycle : Option (BitVec 16)
  elapsed : Nat
  flat : Encoder
  conv : Encoder
  deriving DecidableEq, Repr

/-! ### SIG (R169, R179) -/

/-- The state of a sample signal, coded UNMAPPED 0 to LOST 3 (R169, R206). -/
inductive SigState where
  | unmapped | awaiting | fresh | lost
  deriving DecidableEq, Repr

/-- A signal-map entry with its supervision record (R169). -/
structure SigEntry where
  /-- slot index 0–63, `none` for UNMAPPED -/
  slot : Option Nat
  nodeKind : Nat
  staleLimit : Nat
  state : SigState
  stale : Nat
  toggle : Option Bool
  lastGood : Option Word
  lossOpen : Bool
  nodeOpen : Bool
  kindOpen : Bool
  deriving DecidableEq, Repr

/-- A trip input's filtered level and latch (R179). -/
structure Trip where
  asserted : Bool
  latch : Bool
  deriving DecidableEq, Repr

/-- The Signal Monitor: 27 entries in signal number order, and the trip inputs. -/
structure Sig where
  entries : List SigEntry
  estop : Trip
  guard : Trip
  deriving DecidableEq, Repr

/-! ### PAT (R19) -/

/-- The state of a pattern slot: FREE, OPEN, READY, LOCKED, coded 0 to 3 (R19, R206). -/
inductive PatState where
  | free | opened | ready | locked
  deriving DecidableEq, Repr

/-- The derived totals of a closed slot (R32, R33). -/
structure Totals where
  n : Nat
  f : Nat
  o : Nat
  pMin : Nat
  dMax : Nat
  ratio : Nat
  deriving DecidableEq, Repr

/-- A pattern slot (R19). `written` holds bit i for index i. -/
structure PatSlot where
  state : PatState
  entries : List (Word × Word)
  written : BitVec 64
  entryCount : Option Nat
  closeSum : Option Word
  totals : Option Totals
  useCount : Nat
  deriving DecidableEq, Repr

/-! ### Segments (R63, R80) -/

/-- What a PANEL record names (R63). -/
structure PanelId where
  order : Nat
  remake : Nat
  slot : Nat
  cls : Nat
  deriving DecidableEq, Repr

/-- The kind of a segment, coded PANEL 0, GAP 1, WINDOW 2, SPLICE 3 (R63, R206). -/
inductive SegKind where
  | panel (id : PanelId)
  | gap
  | window
  | splice
  deriving DecidableEq, Repr

/-- A plan record (R63). -/
structure Seg where
  serial : SegSerial
  kind : SegKind
  start : Nat
  len : Nat
  anchored : Bool
  deriving DecidableEq, Repr

/-- Reject reasons, the outcomes other than ACCEPT, coded 1 to 7 (R84, R206). -/
inductive Reject where
  | underset | overset | band | splice | stroke | aborted | halted
  deriving DecidableEq, Repr

/-- Remake dispositions, coded NONE 0 to PLAN_FULL 3 (R79, R80, R206). -/
inductive Disposition where
  | none | remade | remakeLimit | planFull
  deriving DecidableEq, Repr

/-- A final heat verdict (R99): ACCEPT, or the first heat reason the panel received. -/
inductive Verdict where
  | accept
  | reject (r : Reject)
  deriving DecidableEq, Repr

/-- A set-map record (R80). The fields from `first` on are a PANEL's; a non-PANEL keeps them as they
were at entry. `rejects` holds bit n for outcome n (R207); `firstHeat` is the first of the heat reasons received,
and `verdict` is none until the heat verdict is final (R99). -/
structure SetRec where
  serial : SegSerial
  kind : SegKind
  start : Nat
  len : Nat
  head : Nat
  outLen : Nat
  splice : Bool
  first : Option Reject
  firstHeat : Option Reject
  rejects : BitVec 8
  folds : Nat
  maxLate : Nat
  disposition : Disposition
  cells : Nat
  minAge : Option Nat
  maxAge : Option Nat
  maxExposure : Nat
  verdict : Option Verdict
  deriving DecidableEq, Repr

/-! ### FOLD (R40 to R61) -/

/-- The direction of a fold (R20). -/
inductive Dir where
  | left | right
  deriving DecidableEq, Repr

/-- Walk status, coded WALKING 0, ENDED 1, ABORTED 2 (R40, R206). -/
inductive WalkStatus where
  | walking | ended | aborted
  deriving DecidableEq, Repr

/-- The pending fold (R44). -/
structure PendingFold where
  k : Nat
  dir : Dir
  depth : Nat
  pitch : Nat
  fire : Nat
  last : Bool
  deriving DecidableEq, Repr

/-- A frame of the group stack: the GROUP_BEGIN's index and the repeats left (R42). -/
structure GroupFrame where
  begin : Nat
  left : Nat
  deriving DecidableEq, Repr

/-- The walk of the PANEL at the blade (R42, R43). The group stack holds its innermost frame first. -/
structure Walk where
  slot : Nat
  n : Nat
  status : WalkStatus
  entry : Nat
  stack : List GroupFrame
  ramp : Nat
  k : Nat
  base : Nat
  out : Nat
  folds : Nat
  maxLate : Nat
  flatDone : Nat
  outDone : Nat
  pending : Option PendingFold
  deriving DecidableEq, Repr

/-- The segment at the blade (R40). A PANEL has a walk. -/
structure BladeSeg where
  serial : SegSerial
  kind : SegKind
  start : Nat
  len : Nat
  walk : Option Walk
  deriving DecidableEq, Repr

/-- The stroke in flight (R48). -/
structure Stroke where
  serial : Serial8
  panel : SegSerial
  age : Nat
  deriving DecidableEq, Repr

/-- The Fold Scheduler (R40, R45, R46, R48, R54). -/
structure Fold where
  seg : Option BladeSeg
  held : Serial8
  synced : Bool
  heldDir : Dir
  heldDepth : Nat
  heldLast : Bool
  stroke : Option Stroke
  status : Option BladeStatus
  done : Serial8
  failLatch : Bool
  deriving DecidableEq, Repr

/-! ### PLAN (R63, R80, R83, R85) -/

/-- A completion entry (R84): `first` is the outcome, `none` for ACCEPT; dwells and exposure in ms. -/
structure Completion where
  id : PanelId
  first : Option Reject
  folds : Nat
  maxLate : Nat
  minDwell : Nat
  maxDwell : Nat
  exposure : Nat
  disposition : Disposition
  deriving DecidableEq, Repr

/-- The Panel Plan, the set map, the cutter command and the completion log. -/
structure Plan where
  segs : List Seg
  originMark : Nat
  counter : SegSerial
  setMap : List SetRec
  cutSerial : Serial8
  divert : Bool
  log : List Completion
  discard : Bool
  deriving DecidableEq, Repr

/-! ### HEAT (R89, R94, R95, R103, R107, R109) -/

/-- A fabric class (R89). `sets` holds SET_1 to SET_4. -/
structure FabricClass where
  isDefined : Bool
  minDwell : Nat
  targetDwell : Nat
  maxDwell : Nat
  tol : Nat
  bandAllow : Nat
  sets : List Nat
  useCount : Nat
  deriving DecidableEq, Repr

/-- A cell of the cell line (R95): `owner` is `none` for EMPTY. -/
structure Cell where
  owner : Option SegSerial
  age : Nat
  exposure : Nat
  deriving DecidableEq, Repr

/-- The standby phase, coded NONE 0 to STANDBY 3 (R107). -/
inductive StandbyPhase where
  | none | counting | warning | standby
  deriving DecidableEq, Repr

/-- The Heat Setter. `cells` is empty exactly when no cell line exists. -/
structure Heat where
  classes : List FabricClass
  zones : List (Option Nat)
  press : Option Nat
  cells : List Cell
  acc : Nat
  steam : Bool
  phase : StandbyPhase
  standbyTimer : Nat
  stable : Nat
  warm : Nat
  deriving DecidableEq, Repr

/-! ### GOV (R113) -/

/-- The limit cause, coded REQUEST 0 to REACTION 5 (R121, R197). -/
inductive LimitCause where
  | request | dwell | stroke | splice | mode | reaction
  deriving DecidableEq, Repr

/-- The six limits of one computation, each a number or none (R113). -/
structure Limits where
  request : Option Nat
  dwell : Option Nat
  stroke : Option Nat
  splice : Option Nat
  mode : Option Nat
  reaction : Option Nat
  deriving DecidableEq, Repr

/-- The Speed Governor. -/
structure Gov where
  conv : Nat
  target : Nat
  cause : LimitCause
  request : Nat
  ratio : Nat
  feed : Nat
  standA : Nat
  standB : Nat
  limits : Limits
  governed : Nat
  dwellSerial : Option SegSerial
  strokeSerial : Option SegSerial
  saturated : Bool
  deriving DecidableEq, Repr

/-! ### ROLL (R127, R133, R134) -/

/-- The two unwind stands. -/
inductive Stand where
  | a | b
  deriving DecidableEq, Repr

/-- A stand's role, coded ACTIVE 0 to ABSENT 5 (R127, R206). -/
inductive Role where
  | active | incoming | stopping | ready | notReady | absent
  deriving DecidableEq, Repr

/-- A stand record (R127). `brake` is true for ON. -/
structure StandRec where
  role : Option Role
  diam : Option Nat
  speed : Option Nat
  step : Nat
  steps : Nat
  brake : Bool
  deriving DecidableEq, Repr

/-- The sequencer state, coded IDLE 0 to SETTLE 5 (R133, R197). -/
inductive SeqState where
  | idle | armed | prepare | paste | cut | settle
  deriving DecidableEq, Repr

/-- The window status, coded NONE 0 to COMMITTED 3 (R133). -/
inductive WinStatus where
  | none | pending | reserved | committed
  deriving DecidableEq, Repr

/-- The Roll Changer: stands, sequencer record and splicer handshake. -/
structure Roll where
  standA : StandRec
  standB : StandRec
  state : SeqState
  incoming : Option Stand
  forced : Bool
  winStatus : WinStatus
  winSerial : Option SegSerial
  pastePos : Option Nat
  matchCount : Nat
  matched : Bool
  matchTimer : Nat
  confirmAge : Nat
  settleCount : Nat
  missCount : Nat
  hold : Bool
  failed : Bool
  noStandby : Bool
  pasteSerial : Serial8
  cutSerial : Serial8
  synced : Bool
  pasteFlight : Bool
  cutFlight : Bool
  lastPaste : Serial8
  lastCut : Serial8
  /-- true for arm action PREPARE, false for RETRACT -/
  arm : Bool
  armStand : Stand
  deriving DecidableEq, Repr

/-! ### REACT (R181, R182) -/

/-- The sixteen condition kinds, numbered 0 to 15 in this order (R181). -/
inductive Cond where
  | estop | guard | ringLost | ringDegraded | signalLost | nodeFault | pressureLow | zoneOver
  | overdwell | webReverse | webEnd | bladeOverrun | bladeFault | spliceFailed | planEmpty | faultLatched
  deriving DecidableEq, Repr

/-- A reaction's mode action, coded NONE 0, HOLD 1, HALT 2 (R182, R206). -/
inductive ModeAction where
  | none | hold | halt
  deriving DecidableEq, Repr

/-- A reaction's steam action, coded KEEP 0 to VENT 3 (R182, R206). -/
inductive SteamAction where
  | keep | standby | close | vent
  deriving DecidableEq, Repr

/-- A reaction entry's state, coded IDLE 0 to APPLIED 3 (R182, R206). -/
inductive ReactState where
  | idle | waiting | purge | applied
  deriving DecidableEq, Repr

/-- A reaction entry (R182). `speedCap` is `none` for NONE. -/
structure ReactEntry where
  enabled : Bool
  trigger : BitVec 16
  priority : Nat
  modeAction : ModeAction
  speedCap : Option Nat
  steamAction : SteamAction
  purgeCycles : Nat
  inhibit : Bool
  autoClear : Bool
  state : ReactState
  remaining : Nat
  deriving DecidableEq, Repr

/-- The Reaction Unit: condition marks (bit n for condition n) and the reaction table. The purge timer is
held by the entry in PURGE (R186). -/
structure React where
  marks : BitVec 16
  entries : List ReactEntry
  deriving DecidableEq, Repr

/-! ### MODE (R154) -/

/-- The line mode, coded HALT 0 to DRAIN 6 (R154, R206). -/
inductive Mode where
  | halt | halting | thread | warmup | run | hold | drain
  deriving DecidableEq, Repr

/-- The halt cause (R154). -/
inductive HaltCause where
  | none | request | reaction (index : Nat) | warmupTimeout | drainEnd | ringLost | positionRange
  deriving DecidableEq, Repr

/-- The Mode Controller. -/
structure ModeCtl where
  mode : Mode
  step : Nat
  cause : HaltCause
  deriving DecidableEq, Repr

/-! ### FAULT (R211 to R213) -/

/-- The subject of a fault (R211). -/
inductive Subject where
  | none | order (id : Nat) | signal (n : Nat) | stand (s : Stand)
  deriving DecidableEq, Repr

/-- A history entry (R212). -/
structure HistEntry where
  detail : Nat
  subject : Subject
  cycle : BitVec 16
  pBlade : Nat
  repeats : Nat
  deriving DecidableEq, Repr

/-- The Fault Record: history, newest first, and flags, bit g − 1 for group g (R212, R213). -/
structure FaultRec where
  history : List HistEntry
  flags : BitVec 8
  deriving DecidableEq, Repr

/-! ### RING (R192 to R198, R209) -/

/-- What the part last sent on RING OUT. The bytes, with their frame check, are given in Frames.lean. -/
inductive RingOut where
  /-- nothing since Full reset -/
  | quiet
  /-- a frame whose reception ended early was discarded (R192) -/
  | discarded
  /-- a cycle frame with a good check (R194, R196) -/
  | cycle (f : CycleFrame)
  /-- a service frame with a good check (R199) -/
  | service (f : ServiceFrame)
  /-- bytes as they stand, the frame check among them (R192, R193) -/
  | raw (bytes : List Byte)
  deriving DecidableEq, Repr

/-- The Ring Port. `timer` holds the µs the cycle timeout was started with, `none` when it does not run;
`toggles` holds bit i for signal 14 + i. -/
structure Ring where
  toggles : BitVec 13
  timer : Option Nat
  expired : Bool
  seqOpen : Bool
  notice : Nat
  noticeShown : Bool
  address : BitVec 7
  budget : Nat
  window : Nat
  bypass : Bool
  out : RingOut
  deriving DecidableEq, Repr

/-! ### The whole part -/

/-- The state of the part, one field for each block, and the queue of waiting commands, first in first out
(DESIGN CHOICE, notes/assumptions/1.md). -/
structure State where
  ring : Ring
  sig : Sig
  pos : Pos
  table : LineTable
  pat : List PatSlot
  fold : Fold
  plan : Plan
  heat : Heat
  gov : Gov
  roll : Roll
  react : React
  mode : ModeCtl
  fault : FaultRec
  pending : List Instr
  deriving DecidableEq, Repr

/-- Reasons a step could stop the part. The spec gives the part no such stop (INVENTORY.md, Faults), so this
type has no constructor: nothing raises one, which is safe. -/
inductive Fault where
  deriving DecidableEq, Repr

/-- Reasons the model could refuse a command. -/
inductive Refusal where
  /-- Raised only by an arm of `exec` whose command has no meaning yet. Safe: the model stops where the part
  goes on. No arm raises it in this package. -/
  | notModelled (mnemonic : String)
  deriving DecidableEq, Repr

/-! ### Values after Full reset -/

/-- The reset value of each parameter, in number order (R3). -/
def paramResets : List Nat :=
  [1000, 65536, 65536, 1000, 0, 100000, 10000, 1875, 64, 1,
   16, 32, 48, 200000, 0, 10000, 5000, 120, 50, 0,
   10000, 500, 100, 100, 0, 2000, 0, 1000, 600000, 600000,
   10000, 800, 30000, 20000, 10000, 50, 10, 10000, 200, 200,
   2000, 5000, 200000, 20000, 5000, 2000, 16, 1000, 0, 0]

/-- The line table after Full reset (R1). -/
def LineTable.reset : LineTable :=
  { state := .unset, edit := paramResets, applied := paramResets, applyDetail := none }

/-- An encoder after Full reset and LINE_RESET (R17); the baseline's count is DESIGN CHOICE 0, unsafe
(notes/assumptions/13.md). -/
def Encoder.reset : Encoder :=
  { fine := 0, excess := 0, baseline := 0, valid := false, since := 0, jumpOpen := false, saturated := false }

/-- A signal after Full reset (R169). -/
def SigEntry.reset : SigEntry :=
  { slot := none, nodeKind := 0, staleLimit := 1, state := .unmapped, stale := 0, toggle := none,
    lastGood := none, lossOpen := false, nodeOpen := false, kindOpen := false }

/-- A pattern slot after Full reset (R19). -/
def PatSlot.reset : PatSlot :=
  { state := .free, entries := List.replicate 64 (0, 0), written := 0, entryCount := none,
    closeSum := none, totals := none, useCount := 0 }

/-- FOLD after Full reset (R60). -/
def Fold.reset : Fold :=
  { seg := none, held := 0, synced := false, heldDir := .left, heldDepth := 0, heldLast := false,
    stroke := none, status := none, done := 0, failLatch := false }

/-- PLAN after Full reset (R63, R80, R83, R85). -/
def Plan.reset : Plan :=
  { segs := [], originMark := 0, counter := 0, setMap := [], cutSerial := 0, divert := true,
    log := [], discard := false }

/-- A fabric class after Full reset (R89). -/
def FabricClass.reset : FabricClass :=
  { isDefined := false, minDwell := 0, targetDwell := 0, maxDwell := 0, tol := 0, bandAllow := 0,
    sets := [0, 0, 0, 0], useCount := 0 }

/-- HEAT after Full reset (R89, R94, R95, R103, R107, R109). -/
def Heat.reset : Heat :=
  { classes := List.replicate 16 FabricClass.reset, zones := List.replicate 4 none, press := none,
    cells := [], acc := 0, steam := false, phase := .counting, standbyTimer := 0, stable := 0, warm := 0 }

/-- GOV after Full reset (R113). -/
def Gov.reset : Gov :=
  { conv := 0, target := 0, cause := .mode, request := 0, ratio := 65536, feed := 0, standA := 0,
    standB := 0,
    limits := { request := none, dwell := none, stroke := none, splice := none, mode := some 0,
                reaction := none },
    governed := 0, dwellSerial := none, strokeSerial := none, saturated := false }

/-- A stand after Full reset (R127). -/
def StandRec.reset : StandRec :=
  { role := none, diam := none, speed := none, step := 0, steps := 0, brake := true }

/-- ROLL after Full reset (R127, R133, R134). -/
def Roll.reset : Roll :=
  { standA := StandRec.reset, standB := StandRec.reset, state := .idle, incoming := none, forced := false,
    winStatus := .none, winSerial := none, pastePos := none, matchCount := 0, matched := false,
    matchTimer := 0, confirmAge := 0, settleCount := 0, missCount := 0, hold := false, failed := false,
    noStandby := false, pasteSerial := 0, cutSerial := 0, synced := false, pasteFlight := false,
    cutFlight := false, lastPaste := 0, lastCut := 0, arm := false, armStand := .a }

/-- A reaction entry after Full reset (R182). -/
def ReactEntry.reset : ReactEntry :=
  { enabled := false, trigger := 0, priority := 1, modeAction := .none, speedCap := none,
    steamAction := .keep, purgeCycles := 0, inhibit := false, autoClear := false, state := .idle,
    remaining := 0 }

/-- RING's values while Full reset holds the part (R178, R197, R198, R209): the bypass is closed and the
cycle timeout does not run. -/
def Ring.reset (address : BitVec 7) : Ring :=
  { toggles := 0, timer := none, expired := false, seqOpen := false, notice := 64, noticeShown := false,
    address := address, budget := 16, window := 0, bypass := true, out := .quiet }

/-- Every block at its Full reset values, with RING_BYPASS still asserted (R209), the queue as given. -/
def State.inReset (address : BitVec 7) (estop guard : Bool) (pending : List Instr) : State :=
  { ring := Ring.reset address
    sig := { entries := List.replicate 27 SigEntry.reset,
             estop := { asserted := estop, latch := false }, guard := { asserted := guard, latch := false } }
    pos := { lastCycle := none, elapsed := 0, flat := Encoder.reset, conv := Encoder.reset }
    table := LineTable.reset
    pat := List.replicate 32 PatSlot.reset
    fold := Fold.reset
    plan := Plan.reset
    heat := Heat.reset
    gov := Gov.reset
    roll := Roll.reset
    react := { marks := 0, entries := List.replicate 8 ReactEntry.reset }
    mode := { mode := .halt, step := 0, cause := .none }
    fault := { history := [], flags := 0 }
    pending := pending }

/-- The part right after Full reset (R209): RING_BYPASS released and the cycle timeout started at
4 × CYCLE_US µs (R198). Straps 0 and trip inputs not asserted: DESIGN CHOICE, unsafe
(notes/assumptions/2.md). -/
def State.reset : State :=
  let s := State.inReset 0 false false []
  { s with ring := { s.ring with bypass := false, timer := some 4000 } }

end Sys2Proof.Machine
end

