-- ==== Sys2Proof/Machine/Flags.lean ====
section
/-! DEFINITION. The condition marks of REACT (R181) and the fault history with its group flags
(R211 to R213). Marks are set here and judged for triggers in React.lean. -/
namespace Sys2Proof.Machine

/-! ### Condition marks -/

/-- The number of a condition (R181). -/
def condNum : Cond → Nat
  | .estop => 0
  | .guard => 1
  | .ringLost => 2
  | .ringDegraded => 3
  | .signalLost => 4
  | .nodeFault => 5
  | .pressureLow => 6
  | .zoneOver => 7
  | .overdwell => 8
  | .webReverse => 9
  | .webEnd => 10
  | .bladeOverrun => 11
  | .bladeFault => 12
  | .spliceFailed => 13
  | .planEmpty => 14
  | .faultLatched => 15

/-- The bit of a condition in the marks and in a TRIGGER set (R206). -/
def condBit (c : Cond) : BitVec 16 := 1#16 <<< condNum c

/-- Is a condition active? -/
def State.cond (s : State) (c : Cond) : Bool := s.react.marks.getLsbD (condNum c)

/-- Marks with one condition made active or inactive. -/
def withMark (c : Cond) (b : Bool) (m : BitVec 16) : BitVec 16 :=
  if b then m ||| condBit c else m &&& ~~~condBit c

/-- Make a condition active or inactive (R181). -/
def setCond (c : Cond) (b : Bool) (s : State) : State :=
  { s with react := { s.react with marks := withMark c b s.react.marks } }

/-! ### Fault record -/

/-- A fault placed in the history; the flag says that an entry was dropped (R212). -/
def pushHistory (e : HistEntry) : List HistEntry → List HistEntry × Bool
  | [] => ([{ e with repeats := 1 }], false)
  | h :: t =>
    if h.detail = e.detail ∧ h.subject = e.subject then
      ({ e with repeats := min 255 (h.repeats + 1) } :: t, false)
    else
      (({ e with repeats := 1 } :: h :: t).take Config.historyPlaces,
        decide (Config.historyPlaces ≤ t.length + 1))

/-- The latched flag of a group, 1 to 8 (R213, R214). -/
def groupBit (g : Nat) : BitVec 8 := 1#8 <<< (g - 1)

/-- P_blade: the integer part of the flat fine position (R15). -/
def State.pBlade (s : State) : Nat := s.pos.flat.fine / 65536

/-- Record a fault: stamp it, place it in the history, set its group's flag (and group 1's when an entry was
dropped), and mark FAULT_LATCHED (R211, R212, R213). -/
def recordFault (detail : Nat) (subject : Subject) (s : State) : State :=
  let e : HistEntry :=
    { detail := detail, subject := subject, cycle := s.pos.lastCycle.getD 0, pBlade := s.pBlade, repeats := 1 }
  let pushed := pushHistory e s.fault.history
  let flags := s.fault.flags ||| groupBit (detail / 100)
  setCond .faultLatched true
    { s with fault := { history := pushed.1, flags := if pushed.2 then flags ||| groupBit 1 else flags } }

/-- A condition that records a fault at each activation becomes active; while it is active nothing happens. -/
def raiseCond (c : Cond) (detail : Nat) (subject : Subject) (s : State) : State :=
  if s.cond c then s else setCond c true (recordFault detail subject s)

/-- Judge such a condition by its owner's finding. -/
def judgeCond (c : Cond) (found : Bool) (detail : Nat) (subject : Subject) (s : State) : State :=
  if found then raiseCond c detail subject s else setCond c false s

end Sys2Proof.Machine
end

