-- ==== Sys2Proof/Machine/Operands.lean ====
section
/-! DEFINITION. The operand forms of requests and the answers to them: refusal reasons (R200), answer words
(R206) and the codes of enumerated fields. -/
namespace Sys2Proof.Machine

/-- The refusal reasons, coded 1 to 37 in this order (R200). -/
inductive Reason where
  | wrongMode | lineNotEmpty | noSuchParam | outOfRange | crossCheck | noSuchSlot | inUse | notOpen
  | closeCheck | notLoaded | notAtBlade | foldsDone | lineUnset | slotNotReady | classUndefined
  | patternUnfit | classUnfit | orderTooShort | orderIdInUse | planFull | started | notFound
  | classSeparation | busy | notPresent | noActiveStand | notReady | nothingToCancel | forced | tooLate
  | notAllowed | inhibited | checkFailed | slotInUse | notIdle | notApplied | stillActive
  deriving DecidableEq, Repr

/-- The code of a refusal reason (R200). -/
def reasonCode : Reason → Nat
  | .wrongMode => 1
  | .lineNotEmpty => 2
  | .noSuchParam => 3
  | .outOfRange => 4
  | .crossCheck => 5
  | .noSuchSlot => 6
  | .inUse => 7
  | .notOpen => 8
  | .closeCheck => 9
  | .notLoaded => 10
  | .notAtBlade => 11
  | .foldsDone => 12
  | .lineUnset => 13
  | .slotNotReady => 14
  | .classUndefined => 15
  | .patternUnfit => 16
  | .classUnfit => 17
  | .orderTooShort => 18
  | .orderIdInUse => 19
  | .planFull => 20
  | .started => 21
  | .notFound => 22
  | .classSeparation => 23
  | .busy => 24
  | .notPresent => 25
  | .noActiveStand => 26
  | .notReady => 27
  | .nothingToCancel => 28
  | .forced => 29
  | .tooLate => 30
  | .notAllowed => 31
  | .inhibited => 32
  | .checkFailed => 33
  | .slotInUse => 34
  | .notIdle => 35
  | .notApplied => 36
  | .stillActive => 37

/-- An answer to a request (R200). -/
inductive Answer where
  | done (words : List Word)
  | refused (reason : Reason) (detail : Nat)
  | unknown
  | malformed
  deriving DecidableEq, Repr

/-- The answer code: DONE 1, REFUSED 2, UNKNOWN 3, MALFORMED 4 (R200). -/
def answerCode : Answer → Nat
  | .done _ => 1
  | .refused _ _ => 2
  | .unknown => 3
  | .malformed => 4

/-- The answer words of an answer; only DONE carries any (R199). -/
def answerWords : Answer → List Word
  | .done ws => ws
  | _ => []

/-- The refusal reason's code, 0 in an answer that is not REFUSED (R199). -/
def answerReason : Answer → Nat
  | .refused r _ => reasonCode r
  | _ => 0

/-- The refusal detail, 0 in an answer that is not REFUSED (R199, R200). -/
def answerDetail : Answer → Nat
  | .refused _ d => d
  | _ => 0

/-- The service frame as RING forwards it with an answer in it (R199). -/
def answeredFrame (address : BitVec 7) (code argCount : Byte) (r : Request) (a : Answer) : ServiceFrame :=
  let ws := (answerWords a).take 16
  { dest := address, destTop := r.destTop, code := code, argCount := argCount,
    answerCode := BitVec.ofNat 8 (answerCode a), reason := BitVec.ofNat 8 (answerReason a),
    answerCount := BitVec.ofNat 8 ws.length, byte7 := r.byte7, detail := word (answerDetail a),
    args := r.args ++ r.rest, answers := ws ++ List.replicate (16 - ws.length) 0 }

/-! ### Answer words -/

/-- A field that is none (R206). -/
def noneWord : Word := 0xFFFFFFFF

/-- A number or none as one word (R206). -/
def optWord : Option Nat → Word
  | some n => word n
  | none => noneWord

/-- A flag as one word (R206). -/
def flagWord (b : Bool) : Word := word (bit b)

/-- A position or a reverse excess as two words: the bits above 31, then bits 31–0 (R206). -/
def wideWords (n : Nat) : List Word := [word (n / 4294967296), word n]

/-- A position or none as two words; none is written in both (R206; DESIGN CHOICE, unsafe,
notes/assumptions/41.md). -/
def optWideWords : Option Nat → List Word
  | some n => wideWords n
  | none => [noneWord, noneWord]

/-- A length as one word, given as 4,294,967,295 when it exceeds that (R207). -/
def lengthWord (n : Nat) : Word := word (min n 4294967295)

/-! ### Codes of enumerated fields (R206) -/

/-- UNSET 0, EDIT 1, SET 2 (R201). -/
def tableCode : TableState → Nat
  | .unset => 0
  | .edit => 1
  | .set => 2

/-- FREE 0, OPEN 1, READY 2, LOCKED 3 (R19). -/
def patCode : PatState → Nat
  | .free => 0
  | .opened => 1
  | .ready => 2
  | .locked => 3

/-- UNMAPPED 0, AWAITING 1, FRESH 2, LOST 3 (R169). -/
def sigCode : SigState → Nat
  | .unmapped => 0
  | .awaiting => 1
  | .fresh => 2
  | .lost => 3

/-- PANEL 0, GAP 1, WINDOW 2, SPLICE 3 (R63). -/
def kindCode : SegKind → Nat
  | .panel _ => 0
  | .gap => 1
  | .window => 2
  | .splice => 3

/-- The outcome of a reject reason, 1 to 7; ACCEPT is 0 (R84). -/
def rejectCode : Reject → Nat
  | .underset => 1
  | .overset => 2
  | .band => 3
  | .splice => 4
  | .stroke => 5
  | .aborted => 6
  | .halted => 7

/-- A first reject reason or ACCEPT (R84, R207). -/
def outcomeCode : Option Reject → Nat
  | some r => rejectCode r
  | none => 0

/-- NONE 0, REMADE 1, REMAKE_LIMIT 2, PLAN_FULL 3 (R80). -/
def dispositionCode : Disposition → Nat
  | .none => 0
  | .remade => 1
  | .remakeLimit => 2
  | .planFull => 3

/-- LEFT 0, RIGHT 1 (R204). -/
def dirCode : Dir → Nat
  | .left => 0
  | .right => 1

/-- WALKING 0, ENDED 1, ABORTED 2 (R206). -/
def walkCode : WalkStatus → Nat
  | .walking => 0
  | .ended => 1
  | .aborted => 2

/-- READY 0, BUSY 1, PARKED 2, FAULT 3 (R204). -/
def bladeCode : BladeStatus → Nat
  | .ready => 0
  | .busy => 1
  | .parked => 2
  | .fault => 3

/-- NONE 0, COUNTING 1, WARNING 2, STANDBY 3 (R107). -/
def phaseCode : StandbyPhase → Nat
  | .none => 0
  | .counting => 1
  | .warning => 2
  | .standby => 3

/-- REQUEST 0 to REACTION 5 (R197). -/
def limitCode : LimitCause → Nat
  | .request => 0
  | .dwell => 1
  | .stroke => 2
  | .splice => 3
  | .mode => 4
  | .reaction => 5

/-- Stand A 0, stand B 1 (R206). -/
def standCode : Stand → Nat
  | .a => 0
  | .b => 1

/-- ACTIVE 0 to ABSENT 5 (R206). -/
def roleCode : Role → Nat
  | .active => 0
  | .incoming => 1
  | .stopping => 2
  | .ready => 3
  | .notReady => 4
  | .absent => 5

/-- IDLE 0 to SETTLE 5 (R197). -/
def seqCode : SeqState → Nat
  | .idle => 0
  | .armed => 1
  | .prepare => 2
  | .paste => 3
  | .cut => 4
  | .settle => 5

/-- NONE 0, PENDING 1, RESERVED 2, COMMITTED 3 (R133). -/
def winCode : WinStatus → Nat
  | .none => 0
  | .pending => 1
  | .reserved => 2
  | .committed => 3

/-- NONE 0, HOLD 1, HALT 2 (R206). -/
def actionCode : ModeAction → Nat
  | .none => 0
  | .hold => 1
  | .halt => 2

/-- KEEP 0, STANDBY 1, CLOSE 2, VENT 3 (R206). -/
def steamCode : SteamAction → Nat
  | .keep => 0
  | .standby => 1
  | .close => 2
  | .vent => 3

/-- IDLE 0, WAITING 1, PURGE 2, APPLIED 3 (R206). -/
def reactCode : ReactState → Nat
  | .idle => 0
  | .waiting => 1
  | .purge => 2
  | .applied => 3

/-- HALT 0 to DRAIN 6 (R197, R206). -/
def modeCode : Mode → Nat
  | .halt => 0
  | .halting => 1
  | .thread => 2
  | .warmup => 3
  | .run => 4
  | .hold => 5
  | .drain => 6

/-- NONE 0 to POSITION_RANGE 6 (R154, R206). -/
def causeCode : HaltCause → Nat
  | .none => 0
  | .request => 1
  | .reaction _ => 2
  | .warmupTimeout => 3
  | .drainEnd => 4
  | .ringLost => 5
  | .positionRange => 6

/-- The reaction index carried with REACTION, 0 with any other cause (R154, R208). -/
def causeIndex : HaltCause → Nat
  | .reaction i => i
  | _ => 0

end Sys2Proof.Machine
end

