-- ==== Sys2Proof/Machine/Ops.lean ====
section
/-! DEFINITION. Named reads and updates of the state that several blocks share: line table parameters,
positions, signal entries, slots and classes with their use counts, plan and set-map records, stands and
reactions. -/
namespace Sys2Proof.Machine

/-! ### Parameters of the line table (R3) -/

/-- A parameter of an image by its number (R3). -/
def paramOf (image : List Nat) (n : Nat) : Nat := image.getD (n - 1) 0

/-- A parameter of the applied image, which the blocks use (R1, R3). -/
def State.par (s : State) (n : Nat) : Nat := paramOf s.table.applied n

namespace Par
/-! Parameter numbers (R3). -/
abbrev cycleUs : Nat := 1
abbrev feedScale : Nat := 2
abbrev convScale : Nat := 3
abbrev maxDelta : Nat := 4
abbrev reverseLimit : Nat := 5
abbrev lPleat : Nat := 6
abbrev boxIn : Nat := 7
abbrev cellLen : Nat := 8
abbrev cellCount : Nat := 9
abbrev zoneCount : Nat := 10
/-- ZONE_FIRST_z is parameter 9 + z for z from 2 to 4. -/
abbrev zoneFirstBase : Nat := 9
abbrev lCut : Nat := 14
abbrev panelGap : Nat := 15
abbrev idleGap : Nat := 16
abbrev depthMax : Nat := 17
abbrev strokeRate : Nat := 18
abbrev strokeTimeout : Nat := 19
abbrev lateWu : Nat := 20
abbrev lineMax : Nat := 21
abbrev crawl : Nat := 22
abbrev accelStep : Nat := 23
abbrev decelStep : Nat := 24
abbrev horizon : Nat := 25
abbrev zoneLimit : Nat := 26
abbrev pressMin : Nat := 27
abbrev warmStable : Nat := 28
abbrev warmTimeout : Nat := 29
abbrev standbyDelay : Nat := 30
abbrev standbyWarn : Nat := 31
abbrev standbySet : Nat := 32
abbrev changeDiam : Nat := 33
abbrev critDiam : Nat := 34
abbrev coreDiam : Nat := 35
abbrev matchTol : Nat := 36
abbrev matchStable : Nat := 37
abbrev matchTimeout : Nat := 38
abbrev pasteTimeout : Nat := 39
abbrev cutTimeout : Nat := 40
abbrev settleCycles : Nat := 41
abbrev spliceLen : Nat := 42
abbrev prepDist : Nat := 43
abbrev windowLen : Nat := 44
abbrev windowMargin : Nat := 45
abbrev spliceSpeed : Nat := 46
abbrev ringErrLimit : Nat := 47
abbrev ringErrWindow : Nat := 48
abbrev tripEstopMode : Nat := 49
abbrev tripGuardMode : Nat := 50
end Par

/-- BOX_LEN: CELL_COUNT × CELL_LEN of the applied image (R3). -/
def State.boxLen (s : State) : Nat := s.par Par.cellCount * s.par Par.cellLen

/-- The first cell of zone z, z from 1 (R93). -/
def zoneFirst (image : List Nat) (z : Nat) : Nat := if z ≤ 1 then 0 else paramOf image (Par.zoneFirstBase + z)

/-- The zones that exist, 1 to ZONE_COUNT (R93). -/
def State.zoneList (s : State) : List Nat := (List.range (s.par Par.zoneCount)).map (· + 1)

/-! ### Positions (R15) -/

/-- S: the integer part of the set fine position (R15). -/
def State.setPos (s : State) : Nat := s.pos.conv.fine / 65536

/-- P_unwind = P_blade + L_PLEAT, formed afresh at each reading (R15). -/
def State.pUnwind (s : State) : Nat := s.pBlade + s.par Par.lPleat

/-! ### Signal numbers (R169) -/

namespace Sg
/-! Signal numbers (R169): samples 0 to 13, commands 14 to 26. -/
abbrev feedPos : Nat := 0
abbrev convPos : Nat := 1
abbrev bladeState : Nat := 2
/-- ZONE_TEMP_z is signal 2 + z. -/
abbrev zoneTempBase : Nat := 2
abbrev boxPress : Nat := 7
abbrev webTension : Nat := 8
abbrev standASpeed : Nat := 9
abbrev standBSpeed : Nat := 10
abbrev spliceState : Nat := 11
abbrev standADiam : Nat := 12
abbrev standBDiam : Nat := 13
abbrev bladeCmd : Nat := 14
abbrev feedSpeed : Nat := 15
abbrev convSpeed : Nat := 16
/-- ZONE_SET_z is signal 16 + z. -/
abbrev zoneSetBase : Nat := 16
abbrev vent : Nat := 21
abbrev standACmd : Nat := 22
abbrev standBCmd : Nat := 23
abbrev spliceCmd : Nat := 24
abbrev cutterCmd : Nat := 25
abbrev lineStatus : Nat := 26
end Sg

/-- Signals 0 to 13 are samples (R169). -/
def isSample (i : Nat) : Bool := i ≤ 13

/-- A signal's entry (R169). -/
def State.entry (s : State) (i : Nat) : SigEntry := s.sig.entries.getD i SigEntry.reset

/-- Change a signal's entry. -/
def modEntry (i : Nat) (f : SigEntry → SigEntry) (s : State) : State :=
  { s with sig := { s.sig with entries := s.sig.entries.modify i f } }

/-- The diameter signal of a stand (R169). -/
def diamSignal : Stand → Nat
  | .a => Sg.standADiam
  | .b => Sg.standBDiam

/-- The speed signal of a stand (R169). -/
def speedSignal : Stand → Nat
  | .a => Sg.standASpeed
  | .b => Sg.standBSpeed

/-! ### Pattern slots and classes -/

/-- A pattern slot (R19). -/
def State.slot (s : State) (n : Nat) : PatSlot := s.pat.getD n PatSlot.reset

/-- A fabric class (R89). -/
def State.cls (s : State) (n : Nat) : FabricClass := s.heat.classes.getD n FabricClass.reset

/-- SET_z of a class (R89). -/
def classSet (c : FabricClass) (z : Nat) : Nat := c.sets.getD (z - 1) 0

/-- A slot named by one more panel: READY becomes LOCKED at the first (R37). -/
def slotRaised (p : PatSlot) : PatSlot :=
  { p with useCount := p.useCount + 1, state := if p.useCount = 0 then .locked else p.state }

/-- A slot named by one panel less: LOCKED becomes READY at the last (R37). -/
def slotLowered (p : PatSlot) : PatSlot :=
  { p with useCount := p.useCount - 1, state := if p.useCount = 1 then .ready else p.state }

/-- One more live panel names its slot and class (R37, R92). -/
def raiseUse (id : PanelId) (s : State) : State :=
  { s with
    pat := s.pat.modify id.slot slotRaised
    heat := { s.heat with
              classes := s.heat.classes.modify id.cls fun c => { c with useCount := c.useCount + 1 } } }

/-- One live panel less names its slot and class (R37, R92). -/
def lowerUse (id : PanelId) (s : State) : State :=
  { s with
    pat := s.pat.modify id.slot slotLowered
    heat := { s.heat with
              classes := s.heat.classes.modify id.cls fun c => { c with useCount := c.useCount - 1 } } }

/-! ### Segments -/

/-- The panel a kind names, if it is PANEL. -/
def panelOf : SegKind → Option PanelId
  | .panel id => some id
  | _ => none

/-- Is a kind PANEL? -/
def isPanel (k : SegKind) : Bool := (panelOf k).isSome

/-- The flat end of a plan record (R63). -/
def segEnd (g : Seg) : Nat := g.start + g.len

/-- The plan origin: the flat end of the segment at the blade, else the origin mark (R63). -/
def State.planOrigin (s : State) : Nat :=
  match s.fold.seg with
  | some g => g.start + g.len
  | none => s.plan.originMark

/-- The plan end: the flat end of the last plan segment, else the plan origin (R63). -/
def State.planEnd (s : State) : Nat :=
  match s.plan.segs.getLast? with
  | some g => segEnd g
  | none => s.planOrigin

/-- The plan's WINDOW, at most one (R74). -/
def State.window (s : State) : Option Seg := s.plan.segs.find? fun g => g.kind == .window

/-- The tail distance of a set-map record: S − (set head + output length) (R80). -/
def tailDistance (s : State) (r : SetRec) : Int := (s.setPos : Int) - ((r.head + r.outLen : Nat) : Int)

/-- Is a set-map record the segment at the blade (R40)? -/
def atBlade (s : State) (r : SetRec) : Bool :=
  match s.fold.seg with
  | some g => g.serial == r.serial
  | none => false

/-- A set-map record by serial. -/
def State.findRec (s : State) (serial : SegSerial) : Option SetRec :=
  s.plan.setMap.find? fun r => r.serial == serial

/-- Change the set-map record of a serial. -/
def modRec (serial : SegSerial) (f : SetRec → SetRec) (s : State) : State :=
  { s with
    plan := { s.plan with setMap := s.plan.setMap.map fun r => if r.serial = serial then f r else r } }

/-- The bit of a reject reason in a record's set (R207). -/
def rejectBit (r : Reject) : BitVec 8 := 1#8 <<< rejectCode r

/-- Does a record hold a reject reason? -/
def holdsReason (r : Reject) (x : SetRec) : Bool := (x.rejects &&& rejectBit r) != 0

/-- The reject reasons that HEAT gives (R98, R99). -/
def heatReason : Reject → Bool
  | .underset => true
  | .overset => true
  | .band => true
  | _ => false

/-- A record marked with a reject reason: the reason joins its set, and is its first if it had none, and its first
heat reason if it is one and none came before; a reason it already holds leaves it as it was (R40, R99). -/
def marked (r : Reject) (x : SetRec) : SetRec :=
  if holdsReason r x then x
  else
    { x with
      rejects := x.rejects ||| rejectBit r
      first := x.first.or (some r)
      firstHeat := if heatReason r then x.firstHeat.or (some r) else x.firstHeat }

/-- The heat verdict a panel's record gives: ACCEPT with no heat reason, else the first received (R99). -/
def heatVerdict (x : SetRec) : Verdict :=
  match x.firstHeat with
  | some r => .reject r
  | none => .accept

/-- Every serial held by a segment in the plan, at the blade or in the set map (R64). -/
def State.serials (s : State) : List SegSerial :=
  s.plan.segs.map (·.serial) ++ s.plan.setMap.map (·.serial)
    ++ (match s.fold.seg with | some g => [g.serial] | none => [])

/-- The counter raised by one, and again past any serial held (R64). -/
def nextSerial (held : List SegSerial) : Nat → SegSerial → SegSerial
  | 0, c => c + 1
  | fuel + 1, c => if held.contains (c + 1) then nextSerial held fuel (c + 1) else c + 1

/-- A new segment serial (R64). -/
def allocSerial (s : State) : SegSerial × State :=
  let held := s.serials
  let c := nextSerial held held.length s.plan.counter
  (c, { s with plan := { s.plan with counter := c } })

/-! ### Stands (R127, R130) -/

/-- The other stand. -/
def otherStand : Stand → Stand
  | .a => .b
  | .b => .a

/-- A stand's record (R127). -/
def State.stand (s : State) : Stand → StandRec
  | .a => s.roll.standA
  | .b => s.roll.standB

/-- Change a stand's record. -/
def modStand (x : Stand) (f : StandRec → StandRec) (s : State) : State :=
  match x with
  | .a => { s with roll := { s.roll with standA := f s.roll.standA } }
  | .b => { s with roll := { s.roll with standB := f s.roll.standB } }

/-- The ACTIVE stand, at most one (R131). -/
def State.activeStand (s : State) : Option Stand :=
  if s.roll.standA.role = some .active then some .a
  else if s.roll.standB.role = some .active then some .b
  else none

/-- The brake a role and its deactivation step give, true for ON (R130). -/
def brakeOf (role : Option Role) (step steps : Nat) : Bool :=
  match role with
  | some .active => false
  | some .incoming => false
  | some .stopping => decide (steps ≤ step)
  | _ => true

/-- A stand record given a role and a deactivation step; the brake follows (R127, R130). -/
def withRole (role : Option Role) (step steps : Nat) (r : StandRec) : StandRec :=
  { r with role := role, step := step, steps := steps, brake := brakeOf role step steps }

/-- A stand is present when its diameter reading is above 0 and its diameter signal is not LOST (R129). -/
def State.present (s : State) (x : Stand) : Bool :=
  decide (0 < (s.stand x).diam.getD 0) && (s.entry (diamSignal x)).state != .lost

/-! ### Reactions (R186, R188) -/

/-- A reaction entry (R182). -/
def State.reaction (s : State) (i : Nat) : ReactEntry := s.react.entries.getD i ReactEntry.reset

/-- Change a reaction entry. -/
def modReaction (i : Nat) (f : ReactEntry → ReactEntry) (s : State) : State :=
  { s with react := { s.react with entries := s.react.entries.modify i f } }

/-- The index of the entry that holds the purge timer (R186). -/
def State.purgeHolder (s : State) : Option Nat := s.react.entries.findIdx? fun e => e.state == .purge

/-- Purge active: the timer is held (R188). -/
def State.purgeActive (s : State) : Bool := s.purgeHolder.isSome

/-- The more severe of two steam actions, KEEP < STANDBY < CLOSE < VENT (R188). -/
def steamMax (x y : SteamAction) : SteamAction :=
  match x, y with
  | .vent, _ => .vent
  | _, .vent => .vent
  | .close, _ => .close
  | _, .close => .close
  | .standby, _ => .standby
  | _, .standby => .standby
  | .keep, .keep => .keep

/-- The steam restriction: the most severe STEAM_ACTION of the entries APPLIED (R105, R188). -/
def State.steamRestriction (s : State) : SteamAction :=
  s.react.entries.foldl (fun a e => if e.state = .applied then steamMax a e.steamAction else a) .keep

/-- Is an entry's reaction in force: WAITING, PURGE or APPLIED (R188)? -/
def inForce (e : ReactEntry) : Bool := e.state != .idle

/-- The inhibit restriction (R158, R188). -/
def State.inhibited (s : State) : Bool := s.react.entries.any fun e => inForce e && e.inhibit

/-- The smaller of two numbers, where none is no limit. -/
def optMin : Option Nat → Option Nat → Option Nat
  | some a, some b => some (min a b)
  | some a, none => some a
  | none, b => b

/-- The speed cap in force: the lowest numeric SPEED_CAP (R120, R188). -/
def State.speedCap (s : State) : Option Nat :=
  s.react.entries.foldl (fun a e => if inForce e then optMin a e.speedCap else a) none

end Sys2Proof.Machine
end

