-- ==== Sys2Proof/Machine/Position.lean ====
section
/-! DEFINITION. The Position Tracker: time base (R8), encoder baselines and jumps (R9, R10), fine positions
and reverse excess (R11 to R16). -/
namespace Sys2Proof.Machine

/-- The elapsed count POS gives a frame of this cycle number (R8). -/
def elapsedFor (s : State) (cycle : BitVec 16) : Nat :=
  match s.pos.lastCycle with
  | none => 1
  | some last =>
    let d := (cycle - last).toNat
    if s.ring.expired && !decide (1 ≤ d ∧ d ≤ 32768) then 1 else d

/-- An elapsed count of 0 or above 32,768 is a SEQUENCE error; any other frame is used (R8, R194). -/
def frameUsed (e : Nat) : Bool := decide (1 ≤ e ∧ e ≤ 32768)

/-- The cycles since baseline grow by the elapsed count of every used frame, up to 65,535 (R9). -/
def sinceGrown (e : Nat) (x : Encoder) : Encoder := { x with since := min 65535 (x.since + e) }

/-- POS takes a used frame's cycle number and elapsed count (R8, R9). -/
def useCycle (cycle : BitVec 16) (e : Nat) (s : State) : State :=
  { s with
    pos := { lastCycle := some cycle, elapsed := e, flat := sinceGrown e s.pos.flat,
             conv := sinceGrown e s.pos.conv } }

/-- The count difference of a sample, read as a signed 32-bit integer (R9). -/
def countDelta (x : Encoder) (raw : Word) : Int := (raw - x.baseline).toInt

/-- A sample whose difference exceeds MAX_DELTA × cycles since baseline is a jump; a sample taken as a new
baseline is none (R9, R10). -/
def isJump (maxDelta : Nat) (x : Encoder) (raw : Word) : Bool :=
  x.valid && decide (maxDelta * x.since < (countDelta x raw).natAbs)

/-- An accepted sample: baseline, reverse excess and fine position (R9, R11, R12, R16). -/
def acceptSample (scale : Nat) (x : Encoder) (raw : Word) : Encoder :=
  let b := { x with baseline := raw, valid := true, since := 0, jumpOpen := false }
  if x.valid then
    let d := countDelta x raw
    let fine := d.natAbs * scale
    if d < 0 then { b with excess := min Config.reverseExcessMax (x.excess + fine) }
    else
      let paid := min fine x.excess
      let b := { b with excess := x.excess - paid }
      if x.saturated then b
      else if Config.finePositionMax < x.fine + (fine - paid) then
        { b with fine := Config.finePositionMax, saturated := true }
      else { b with fine := x.fine + (fine - paid) }
  else b

/-- Judge WEB_REVERSE: the feed encoder's reverse excess against REVERSE_LIMIT × 65,536 (R13). -/
def judgeWebReverse (s : State) : State :=
  judgeCond .webReverse (decide (s.par Par.reverseLimit * 65536 < s.pos.flat.excess)) 541
    (.signal Sg.feedPos) s

/-- A jump is rejected; the first of an episode records fault 641 (R10). -/
def feedJump (s : State) : State :=
  if s.pos.flat.jumpOpen then s
  else
    recordFault 641 (.signal Sg.feedPos)
      { s with pos := { s.pos with flat := { s.pos.flat with jumpOpen := true } } }

/-- The same for the conveyor encoder (R14). -/
def convJump (s : State) : State :=
  if s.pos.conv.jumpOpen then s
  else
    recordFault 641 (.signal Sg.convPos)
      { s with pos := { s.pos with conv := { s.pos.conv with jumpOpen := true } } }

/-- POS accepts a FEED_POS sample (R9 to R13, R16). The fault 811 of a saturation is recorded here; that it
forces HALTING is MODE's (R163; `forceOnSaturation`). -/
def feedAccept (raw : Word) (s : State) : State :=
  let x := acceptSample (s.par Par.feedScale) s.pos.flat raw
  let s' := judgeWebReverse { s with pos := { s.pos with flat := x } }
  if x.saturated && !s.pos.flat.saturated then recordFault 811 (.signal Sg.feedPos) s' else s'

/-- POS accepts a CONV_POS sample (R14, R16). -/
def convAccept (raw : Word) (s : State) : State :=
  let x := acceptSample (s.par Par.convScale) s.pos.conv raw
  let s' := { s with pos := { s.pos with conv := x } }
  if x.saturated && !s.pos.conv.saturated then recordFault 811 (.signal Sg.convPos) s' else s'

end Sys2Proof.Machine
end

