-- ==== Sys2Proof/Machine/Pattern.lean ====
section
/-! DEFINITION. The Pattern Store: entry layout (R20, R205), ramp depths (R21), the nine close checks
(R26 to R30), derived totals (R32, R33), and the five slot requests (R23 to R36). -/
namespace Sys2Proof.Machine

/-! ### Entries -/

/-- A pattern entry read from its two words (R20). A RAMP's direction `none` is ALTERNATE. -/
inductive Entry where
  | fold (dir : Dir) (p d : Nat)
  | ramp (dir : Option Dir) (n p d0 d1 : Nat)
  | space (len : Nat)
  | groupBegin (r : Nat)
  | groupEnd
  deriving DecidableEq, Repr

/-- LEFT and RIGHT by their code (R205). -/
def dirOfCode (n : Nat) : Dir := if n = 0 then .left else .right

/-- The entry of kind 1, if its fields are in range and nothing else is set (R20, R205). -/
def foldOfWords (a b : Nat) : Option Entry :=
  let dir := a / 67108864 % 4
  let p := a % 32768
  let d := b % 8192
  if a = 268435456 + dir * 67108864 + p ∧ b = d ∧ dir ≤ 1 ∧ 50 ≤ p ∧ p ≤ 20000 ∧ 100 ≤ d ∧ d ≤ 5000 then
    some (.fold (dirOfCode dir) p d)
  else none

/-- The entry of kind 2 (R20, R205). -/
def rampOfWords (a b : Nat) : Option Entry :=
  let dir := a / 67108864 % 4
  let n := a / 262144 % 256
  let p := a % 32768
  let d0 := b / 65536 % 8192
  let d1 := b % 8192
  if a = 2 * 268435456 + dir * 67108864 + n * 262144 + p ∧ b = d0 * 65536 + d1 ∧ dir ≤ 2 ∧ 2 ≤ n ∧ n ≤ 250 ∧
      50 ≤ p ∧ p ≤ 20000 ∧ 100 ≤ d0 ∧ d0 ≤ 5000 ∧ 100 ≤ d1 ∧ d1 ≤ 5000 then
    some (.ramp (if dir = 2 then none else some (dirOfCode dir)) n p d0 d1)
  else none

/-- The entry its two words carry, or none when the kind is unknown, a field is out of range or a part the
kind does not use is not zero (R20, R28, R205). -/
def decodeEntry (w : Word × Word) : Option Entry :=
  let a := w.1.toNat
  let b := w.2.toNat
  match a / 268435456 with
  | 1 => foldOfWords a b
  | 2 => rampOfWords a b
  | 3 => if a = 3 * 268435456 ∧ 1 ≤ b ∧ b ≤ 200000 then some (.space b) else none
  | 4 =>
    let r := a % 128
    if a = 4 * 268435456 + r ∧ b = 0 ∧ 2 ≤ r ∧ r ≤ 64 then some (.groupBegin r) else none
  | 5 => if a = 5 * 268435456 ∧ b = 0 then some .groupEnd else none
  | _ => none

/-- The depth of fold i of a RAMP: halves are rounded away from zero (R21). -/
def rampDepth (n d0 d1 i : Nat) : Nat :=
  let m := n - 1
  if d0 ≤ d1 then d0 + (2 * ((d1 - d0) * i) + m) / (2 * m)
  else d0 - (2 * ((d0 - d1) * i) + m) / (2 * m)

/-- The direction of fold i of a RAMP (R21). -/
def rampDir (dir : Option Dir) (i : Nat) : Dir :=
  match dir with
  | some d => d
  | none => if i % 2 = 0 then .left else .right

/-- The folds an entry makes at each pass (R30). -/
def entryFolds : Entry → Nat
  | .fold _ _ _ => 1
  | .ramp _ n _ _ _ => n
  | _ => 0

/-- The flat length an entry consumes at each pass (R20). -/
def entryFlat : Entry → Nat
  | .fold _ p d => p + 2 * d
  | .ramp _ n p d0 d1 => n * p + 2 * ((List.range n).map (rampDepth n d0 d1)).sum
  | .space len => len
  | _ => 0

/-- The output length an entry yields at each pass (R20). -/
def entryOut : Entry → Nat
  | .fold _ p _ => p
  | .ramp _ n p _ _ => n * p
  | .space len => len
  | _ => 0

/-- The pitch of a FOLD or RAMP entry. -/
def entryPitch : Entry → Option Nat
  | .fold _ p _ => some p
  | .ramp _ _ p _ _ => some p
  | _ => none

/-- The deepest fold an entry makes (R33). -/
def entryDepth : Entry → Nat
  | .fold _ _ d => d
  | .ramp _ _ _ d0 d1 => max d0 d1
  | _ => 0

/-- Entries with their multiplicities: the product of the repeats of the groups that enclose them (R22). -/
def withMultiplicity : List Entry → List Nat → List (Entry × Nat)
  | [], _ => []
  | .groupBegin r :: t, st => (.groupBegin r, st.foldl (· * ·) 1) :: withMultiplicity t (r :: st)
  | .groupEnd :: t, st => (.groupEnd, st.tail.foldl (· * ·) 1) :: withMultiplicity t st.tail
  | e :: t, st => (e, st.foldl (· * ·) 1) :: withMultiplicity t st

/-! ### Close checks -/

/-- Check 1: the lowest index below c that is not written (R27). -/
def firstUnwritten (p : PatSlot) (c : Nat) : Option Nat :=
  (List.range c).find? fun i => !p.written.getLsbD i

/-- The sum of the words of entries 0 to c − 1, modulo 2³² (R27). -/
def wordSum (entries : List (Word × Word)) (c : Nat) : Word :=
  (entries.take c).foldl (fun a w => a + w.1 + w.2) 0

/-- Check 4: an unmatched GROUP_END, or the innermost GROUP_BEGIN left open (R29). -/
def unbalanced : List Entry → Nat → List Nat → Option Nat
  | [], _, [] => none
  | [], _, b :: _ => some b
  | .groupBegin _ :: t, i, st => unbalanced t (i + 1) (i :: st)
  | .groupEnd :: _, i, [] => some i
  | .groupEnd :: t, i, _ :: st => unbalanced t (i + 1) st
  | _ :: t, i, st => unbalanced t (i + 1) st

/-- Check 5: the first GROUP_BEGIN met while three groups are open (R29). -/
def tooDeep : List Entry → Nat → Nat → Option Nat
  | [], _, _ => none
  | .groupBegin _ :: t, i, d => if 3 ≤ d then some i else tooDeep t (i + 1) (d + 1)
  | .groupEnd :: t, i, d => tooDeep t (i + 1) (d - 1)
  | _ :: t, i, d => tooDeep t (i + 1) d

/-- Check 6: the first GROUP_BEGIN whose GROUP_END is the next entry (R29). -/
def emptyGroup : List Entry → Nat → Option Nat
  | [], _ => none
  | .groupBegin _ :: .groupEnd :: _, i => some i
  | _ :: t, i => emptyGroup t (i + 1)

/-- Checks 8 and 9: the first entry after which the running total exceeds its bound (R30). -/
def overBound (weight : Entry → Nat) (bound : Nat) : List (Entry × Nat) → Nat → Nat → Option Nat
  | [], _, _ => none
  | (e, m) :: t, i, total =>
    if bound < total + weight e * m then some i
    else overBound weight bound t (i + 1) (total + weight e * m)

/-- A total over the expanded sequence (R32). -/
def totalOf (weight : Entry → Nat) (es : List (Entry × Nat)) : Nat :=
  (es.map fun x => weight x.1 * x.2).sum

/-- The derived totals of a pattern that passes every check (R32, R33). -/
def totalsOf (es : List Entry) : Totals :=
  let ms := withMultiplicity es []
  let f := totalOf entryFlat ms
  let o := totalOf entryOut ms
  { n := totalOf entryFolds ms, f := f, o := o,
    pMin := ((es.filterMap entryPitch).foldl (fun a p => optMin a (some p)) none).getD 0,
    dMax := (es.map entryDepth).foldl max 0,
    ratio := f * 65536 / o }

/-- Checks 4 to 9 on entries whose fields are in range: the failing check with its entry index (R29, R30). -/
def structureCheck (es : List Entry) : Option (Nat × Nat) :=
  match unbalanced es 0 [] with
  | some i => some (4, i)
  | none =>
    match tooDeep es 0 0 with
    | some i => some (5, i)
    | none =>
      match emptyGroup es 0 with
      | some i => some (6, i)
      | none =>
        if es.all (fun e => entryFolds e == 0) then some (7, 64)
        else
          let ms := withMultiplicity es []
          match overBound entryFolds 4000 ms 0 0 with
          | some i => some (8, i)
          | none => (overBound entryFlat 4000000 ms 0 0).map fun i => (9, i)

/-- The first of the nine close checks that fails, with its entry index (R26 to R30). -/
def closeCheck (p : PatSlot) (c : Nat) (sum : Word) : Option (Nat × Nat) :=
  match firstUnwritten p c with
  | some i => some (1, i)
  | none =>
    if wordSum p.entries c ≠ sum then some (2, 64)
    else
      let ds := (p.entries.take c).map decodeEntry
      match ds.findIdx? Option.isNone with
      | some i => some (3, i)
      | none => structureCheck (ds.filterMap id)

/-- The entries of a closed slot (R38). -/
def closedEntries (p : PatSlot) : List Entry := (p.entries.take (p.entryCount.getD 0)).filterMap decodeEntry

/-! ### Requests -/

/-- Change a pattern slot. -/
def modSlot (n : Nat) (f : PatSlot → PatSlot) (s : State) : State := { s with pat := s.pat.modify n f }

/-- The number of indices in a written-index set (R35). -/
def writtenCount (v : BitVec 64) : Nat := ((List.range 64).filter fun i => v.getLsbD i).length

/-- The entries a slot counts: the entry count of a READY or LOCKED slot, the written indices of a FREE or OPEN one
(R35, R206). -/
def countedEntries (p : PatSlot) : Nat :=
  match p.state with
  | .free => writtenCount p.written
  | .opened => writtenCount p.written
  | .ready => p.entryCount.getD 0
  | .locked => p.entryCount.getD 0

/-- Summary word 0: state, use count, and the entry count or the written-index count (R35, R206). -/
def slotSummary (p : PatSlot) : Word := word (patCode p.state + 256 * p.useCount + 65536 * countedEntries p)

/-- The derived totals as answer words, 0 where none (R31, R35). -/
def totalsWords (t : Option Totals) : List Word :=
  match t with
  | some t => [word t.n, word t.f, word t.o, word t.pMin, word t.dMax, word t.ratio]
  | none => [0, 0, 0, 0, 0, 0]

/-- A slot made OPEN: entry store cleared, index set emptied, totals discarded (R24). -/
def slotOpened (p : PatSlot) : PatSlot := { PatSlot.reset with state := .opened, useCount := p.useCount }

/-- A slot made FREE (R34, R39). -/
def slotFreed (p : PatSlot) : PatSlot := { PatSlot.reset with useCount := p.useCount }

/-- OPEN_SLOT (R24). -/
def reqOpenSlot (args : List Word) (s : State) : State × Answer :=
  match args with
  | [n] =>
    if 31 < n.toNat then (s, .refused .noSuchSlot 0)
    else if (s.slot n.toNat).state = .locked then (s, .refused .inUse 0)
    else (modSlot n.toNat slotOpened s, .done [])
  | _ => (s, .malformed)

/-- Argument words taken two at a time. -/
def wordPairs : List Word → List (Word × Word)
  | a :: b :: t => (a, b) :: wordPairs t
  | _ => []

/-- Entries stored from an index on, each joining the written-index set (R25). -/
def storeEntries : List (Word × Word) → Nat → PatSlot → PatSlot
  | [], _, p => p
  | e :: t, i, p =>
    storeEntries t (i + 1)
      { p with entries := p.entries.set i e, written := p.written ||| (1#64 <<< i) }

/-- WRITE_ENTRIES (R25). -/
def reqWriteEntries (args : List Word) (s : State) : State × Answer :=
  match args with
  | n :: first :: ws =>
    if ws.length < 2 ∨ 14 < ws.length ∨ ws.length % 2 = 1 then (s, .malformed)
    else if 31 < n.toNat then (s, .refused .noSuchSlot 0)
    else if (s.slot n.toNat).state ≠ .opened then (s, .refused .notOpen 0)
    else if 63 < first.toNat + ws.length / 2 - 1 then (s, .refused .outOfRange 0)
    else (modSlot n.toNat (storeEntries (wordPairs ws) first.toNat) s, .done [])
  | _ => (s, .malformed)

/-- A slot closed on c entries (R31). -/
def slotClosed (c : Nat) (sum : Word) (p : PatSlot) : PatSlot :=
  { p with
    state := .ready
    entries := p.entries.take c ++ List.replicate (64 - c) (0, 0)
    written := 0
    entryCount := some c
    closeSum := some sum
    totals := some (totalsOf ((p.entries.take c).filterMap decodeEntry)) }

/-- CLOSE_SLOT (R26, R31). NOT_OPEN comes before OUT_OF_RANGE (DESIGN CHOICE, unsafe, notes/assumptions/38.md). -/
def reqCloseSlot (args : List Word) (s : State) : State × Answer :=
  match args with
  | [n, c, sum] =>
    if 31 < n.toNat then (s, .refused .noSuchSlot 0)
    else
      let p := s.slot n.toNat
      if p.state ≠ .opened then (s, .refused .notOpen 0)
      else if c.toNat < 1 ∨ 64 < c.toNat then (s, .refused .outOfRange 0)
      else
        match closeCheck p c.toNat sum with
        | some (check, index) => (s, .refused .closeCheck (256 * check + index))
        | none =>
          let q := slotClosed c.toNat sum p
          (modSlot n.toNat (slotClosed c.toNat sum) s, .done (slotSummary q :: totalsWords q.totals))
  | _ => (s, .malformed)

/-- RELEASE_SLOT (R34). -/
def reqReleaseSlot (args : List Word) (s : State) : State × Answer :=
  match args with
  | [n] =>
    if 31 < n.toNat then (s, .refused .noSuchSlot 0)
    else
      match (s.slot n.toNat).state with
      | .locked => (s, .refused .inUse 0)
      | .free => (s, .done [])
      | .opened => (modSlot n.toNat slotFreed s, .done [])
      | .ready => (modSlot n.toNat slotFreed s, .done [])
  | _ => (s, .malformed)

/-- READ_SLOT (R35, R36). OUT_OF_RANGE of k or of the last index comes before NOT_LOADED (DESIGN CHOICE, unsafe,
notes/assumptions/38.md). -/
def reqReadSlot (args : List Word) (s : State) : State × Answer :=
  match args with
  | [n, first, k] =>
    if 31 < n.toNat then (s, .refused .noSuchSlot 0)
    else
      let p := s.slot n.toNat
      if k.toNat = 0 then
        (s, .done (slotSummary p :: totalsWords p.totals ++
          [p.closeSum.getD 0, p.written.extractLsb' 0 32, p.written.extractLsb' 32 32]))
      else
        let last := first.toNat + k.toNat - 1
        if 7 < k.toNat ∨ 63 < last then (s, .refused .outOfRange 0)
        else if p.state = .free then (s, .refused .notLoaded 0)
        else if (p.state = .ready ∨ p.state = .locked) ∧ p.entryCount.getD 0 ≤ last then
          (s, .refused .outOfRange 0)
        else
          (s, .done (slotSummary p ::
            ((p.entries.drop first.toNat).take k.toNat).flatMap fun w => [w.1, w.2]))
  | _ => (s, .malformed)

/-- A slot after LINE_RESET (R39). -/
def slotLineReset (p : PatSlot) : PatSlot :=
  match p.state with
  | .opened => { slotFreed p with useCount := 0 }
  | .locked => { p with state := .ready, useCount := 0 }
  | _ => { p with useCount := 0 }

end Sys2Proof.Machine
end

