-- ==== Sys2Proof/Machine/Fold.lean ====
section
/-! DEFINITION. The Fold Scheduler: the walk of the pattern (R42 to R44), the blade handshake (R45, R46,
R51 to R54), stroke issue and lateness (R47 to R50), walk abort (R57). -/
namespace Sys2Proof.Machine

/-! ### Walking the pattern -/

/-- The walk standing on a fold forms its pending record (R44). -/
def standOn (b : Nat) (dir : Dir) (depth pitch : Nat) (w : Walk) : Walk :=
  { w with
    pending := some { k := w.k, dir := dir, depth := depth, pitch := pitch, fire := b + w.base + pitch,
                      last := w.k + 1 == w.n } }

/-- One item under the cursor (R43): the walk after it, and whether the cursor stands on a fold. A pattern
that runs out of entries, as no closed slot does (R42), leaves no pending fold. -/
def cursorStep (es : List Entry) (b : Nat) (w : Walk) : Walk × Bool :=
  match es[w.entry]? with
  | some (.fold dir p d) => (standOn b dir d p w, true)
  | some (.ramp dir n p d0 d1) => (standOn b (rampDir dir w.ramp) (rampDepth n d0 d1 w.ramp) p w, true)
  | some (.space len) => ({ w with base := w.base + len, out := w.out + len, entry := w.entry + 1 }, false)
  | some (.groupBegin r) =>
    ({ w with stack := { begin := w.entry, left := r - 1 } :: w.stack, entry := w.entry + 1 }, false)
  | some .groupEnd =>
    match w.stack with
    | g :: t =>
      if 0 < g.left then ({ w with stack := { g with left := g.left - 1 } :: t, entry := g.begin + 1 }, false)
      else ({ w with stack := t, entry := w.entry + 1 }, false)
    | [] => ({ w with pending := none }, true)
  | none => ({ w with pending := none }, true)

/-- The cursor advances item by item until it stands on a fold (R43). -/
def advanceCursor (es : List Entry) (b : Nat) : Nat → Walk → Walk
  | 0, w => w
  | fuel + 1, w =>
    match cursorStep es b w with
    | (w', true) => w'
    | (w', false) => advanceCursor es b fuel w'

/-- More items than any closed slot passes between two folds: 64 entries repeated by three groups of at most
64 repeats (R20, R29). -/
def cursorFuel : Nat := 33554432

/-- The walk set up when a PANEL is taken, standing on its first fold (R42). -/
def startWalk (p : PatSlot) (slot b : Nat) : Walk :=
  advanceCursor (closedEntries p) b cursorFuel
    { slot := slot, n := (p.totals.map (·.n)).getD 0, status := .walking, entry := 0, stack := [], ramp := 0,
      k := 0, base := 0, out := 0, folds := 0, maxLate := 0, flatDone := 0, outDone := 0, pending := none }

/-- The folds of the entry under the cursor: n of a RAMP, 1 of a FOLD. -/
def foldsUnder (es : List Entry) (w : Walk) : Nat :=
  match es[w.entry]? with
  | some e => entryFolds e
  | none => 0

/-- The cursor leaves an issued fold: offsets grow, and it moves on to the next fold, or the walk has ENDED
with fold N − 1 (R43, R55). -/
def leaveFold (es : List Entry) (b : Nat) (f : PendingFold) (w : Walk) : Walk :=
  let base := w.base + f.pitch + 2 * f.depth
  let out := w.out + f.pitch
  let w1 := { w with base := base, out := out, flatDone := base, outDone := out, k := w.k + 1, pending := none }
  if f.last then { w1 with status := .ended }
  else if w.ramp + 1 < foldsUnder es w then
    advanceCursor es b cursorFuel { w1 with ramp := w.ramp + 1 }
  else advanceCursor es b cursorFuel { w1 with ramp := 0, entry := w.entry + 1 }

/-! ### The segment at the blade -/

/-- The walk of the PANEL at the blade. -/
def State.walk (s : State) : Option Walk := s.fold.seg.bind (·.walk)

/-- Folds remain: a PANEL at the blade is WALKING (R55). -/
def State.walking (s : State) : Bool :=
  match s.walk with
  | some w => w.status == .walking
  | none => false

/-- The segment at the blade is done (R41). -/
def State.bladeDone (s : State) : Bool := !s.walking

/-- The panel at the blade. -/
def State.bladePanel (s : State) : Option PanelId := s.fold.seg.bind fun g => panelOf g.kind

/-- Change FOLD. -/
def modFold (f : Fold → Fold) (s : State) : State := { s with fold := f s.fold }

/-- Put a walk into the segment at the blade. -/
def setWalk (w : Walk) (s : State) : State :=
  { s with fold := { s.fold with seg := s.fold.seg.map fun g => { g with walk := some w } } }

/-- Mark the set-map record of a serial with a reject reason (R40). -/
def markRec (serial : SegSerial) (r : Reject) (s : State) : State := modRec serial (marked r) s

/-! ### Blade conditions and action -/

/-- BLADE_FAULT: the stroke-failure latch or a last reported status of FAULT (R54). -/
def judgeBladeFault (s : State) : State :=
  setCond .bladeFault (s.fold.failLatch || s.fold.status == some .fault) s

/-- The blade action, true for STROKE (R46). -/
def State.bladeStroke (s : State) : Bool :=
  s.fold.stroke.isSome ||
    match s.mode.mode with
    | .run => true
    | .hold => true
    | .drain => true
    | .halting => s.mode.step == 0
    | .halt => false
    | .thread => false
    | .warmup => false

/-- Take the last reported status; taking it to FAULT records fault 531 (R45, R54). -/
def setBladeStatus (status : Option BladeStatus) (s : State) : State :=
  let s' := { s with fold := { s.fold with status := status } }
  if status = some .fault ∧ s.fold.status ≠ some .fault then
    recordFault 531 (.signal Sg.bladeState) s'
  else s'

/-! ### Completion and failure -/

/-- The stroke in flight completes (R51). -/
def completeStroke (s : State) : State :=
  judgeBladeFault { s with fold := { s.fold with stroke := none, failLatch := false } }

/-- The stroke in flight fails: its panel is marked, fault 521 recorded, the latch set (R52). -/
def failStroke (x : Stroke) (s : State) : State :=
  let s' := { s with fold := { s.fold with stroke := none, failLatch := true } }
  judgeBladeFault
    (match (s.findRec x.panel).bind fun r => panelOf r.kind with
     | some id => recordFault 521 (.order id.order) (markRec x.panel .stroke s')
     | none => recordFault 521 .none s')

/-- What a fresh BLADE_STATE does to the held serial and the stroke in flight (R45, R51, R53). -/
def takeDoneSerial (status : BladeStatus) (done : Serial8) (s : State) : State :=
  if !s.fold.synced then { s with fold := { s.fold with held := done, synced := true } }
  else
    match s.fold.stroke with
    | none =>
      if done = s.fold.held ∨ done = s.fold.held - 1 then s
      else { s with fold := { s.fold with held := done } }
    | some x =>
      if done = x.serial then completeStroke s
      else if done ≠ x.serial - 1 then
        let s' := failStroke x s
        { s' with fold := { s'.fold with held := done } }
      else if status = .fault then failStroke x s
      else s

/-- FOLD takes a fresh BLADE_STATE sample (R45, R51, R53, R54). -/
def takeBladeState (status : BladeStatus) (done : Serial8) (s : State) : State :=
  let s1 := setBladeStatus (some status) { s with fold := { s.fold with done := done } }
  judgeBladeFault (takeDoneSerial status done s1)

/-- BLADE_STATE is LOST: the last reported status becomes none (R45). -/
def bladeStateLost (s : State) : State := judgeBladeFault (setBladeStatus none s)

/-- One used frame's age of the stroke in flight; at STROKE_TIMEOUT it fails (R52). -/
def ageStroke (s : State) : State :=
  match s.fold.stroke with
  | none => s
  | some x =>
    let x' := { x with age := x.age + 1 }
    if s.par Par.strokeTimeout ≤ x'.age then failStroke x' s
    else { s with fold := { s.fold with stroke := some x' } }

/-! ### Issue -/

/-- The modes in which strokes are issued (R47, R48). -/
def strokeMode : Mode → Bool
  | .run => true
  | .hold => true
  | .drain => true
  | .halt => false
  | .halting => false
  | .thread => false
  | .warmup => false

/-- The fold the issue test finds due (R47). -/
def dueFold (s : State) : Option (BladeSeg × Walk × PendingFold) :=
  match s.fold.seg with
  | none => none
  | some g =>
    match g.walk with
    | none => none
    | some w =>
      match w.pending with
      | none => none
      | some f =>
        if w.status = .walking ∧ f.fire ≤ s.pBlade ∧ s.fold.stroke = none ∧ s.fold.synced = true ∧
            s.fold.status = some .ready ∧ strokeMode s.mode.mode = true then
          some (g, w, f)
        else none

/-- The lateness of a stroke judged: a late fold marks its panel, records fault 511 and makes BLADE_OVERRUN
active; an on-time one makes it inactive (R49, R50). -/
def judgeLateness (g : BladeSeg) (late : Nat) (s : State) : State :=
  if s.par Par.lateWu < late then
    let s' := markRec g.serial .stroke s
    setCond .bladeOverrun true
      (recordFault 511 (match panelOf g.kind with | some id => .order id.order | none => .none) s')
  else setCond .bladeOverrun false s

/-- Issue the stroke of a due fold (R48, R49, R43, R55). Its serial follows the held serial as BLADE_CMD carried it
before, whatever a sample of the same frame has made of the held serial (R48); what counts as carried where BLADE_CMD
was not written: DEDUCED, notes/assumptions/39.md. -/
def issueStroke (carried : Serial8) (g : BladeSeg) (w : Walk) (f : PendingFold) (s : State) : State :=
  let late := s.pBlade - f.fire
  let serial := carried + 1
  let w1 := { w with folds := w.folds + 1, maxLate := max w.maxLate late }
  let w2 := leaveFold (closedEntries (s.slot w.slot)) g.start f w1
  let s1 := modRec g.serial (fun r => { r with folds := r.folds + 1, maxLate := max r.maxLate late }) s
  let s2 := setWalk w2
    { s1 with
      fold := { s1.fold with
                held := serial, heldDir := f.dir, heldDepth := f.depth, heldLast := f.last,
                stroke := some { serial := serial, panel := g.serial, age := 0 } } }
  judgeLateness g late s2

/-- The issue test of a used cycle frame (R47); `carried` is the held serial as BLADE_CMD carried it before (R48). -/
def issueTest (carried : Serial8) (s : State) : State :=
  match dueFold s with
  | some (g, w, f) => issueStroke carried g w f s
  | none => s

/-! ### Abort -/

/-- A WALKING panel's walk is aborted with a reason; its output length is revised (R57). -/
def abortWalk (r : Reject) (s : State) : State :=
  match s.fold.seg with
  | none => s
  | some g =>
    match g.walk with
    | none => s
    | some w =>
      if w.status = .walking then
        let s1 := setWalk { w with status := .aborted } s
        modRec g.serial (fun x => { marked r x with outLen := w.outDone + (g.len - w.flatDone) }) s1
      else s

/-- FOLD after LINE_RESET: segment, walk, stroke in flight and latch cleared; serial, record and last report
kept (R61). -/
def foldLineReset (f : Fold) : Fold := { f with seg := none, stroke := none, failLatch := false }

end Sys2Proof.Machine
end

