-- ==== Sys2Proof/Machine/PlanOps.lean ====
section
/-! DEFINITION. The Panel Plan: merges and replan (R69, R70), class separation (R65), PLAN_PANEL and
CANCEL_PANEL (R66 to R68), overflow (R64), windows (R74, R75), splices and remakes (R76 to R79), the set map
(R80, R81) and the cutter (R83 to R85). -/
namespace Sys2Proof.Machine

/-! ### Records -/

/-- Change the plan's segments. -/
def withSegs (segs : List Seg) (s : State) : State := { s with plan := { s.plan with segs := segs } }

/-- One record laid before a run of records; a GAP before a GAP takes it in (R70). -/
def mergeOne (g : Seg) (acc : List Seg) : List Seg :=
  match acc with
  | [] => [g]
  | h :: t => if g.kind = .gap ∧ h.kind = .gap then { g with len := g.len + h.len } :: t else g :: h :: t

/-- Adjacent GAP records merge; each keeps the serial and flat start of the upstream one, the earlier in the
list (R70). -/
def mergeGaps (segs : List Seg) : List Seg := segs.foldr mergeOne []

/-- A record put into a list in ascending flat start, before those of the same start. -/
def insertSeg (g : Seg) : List Seg → List Seg
  | [] => [g]
  | h :: t => if g.start ≤ h.start then g :: h :: t else h :: insertSeg g t

/-- Records ordered by flat start (R69). -/
def sortSegs (segs : List Seg) : List Seg := segs.foldr insertSeg []

/-- A record with a new serial (R64). -/
def newSeg (kind : SegKind) (start len : Nat) (anchored : Bool) (s : State) : Seg × State :=
  let a := allocSerial s
  ({ serial := a.1, kind := kind, start := start, len := len, anchored := anchored }, a.2)

/-- Records of one kind on each of these stretches, new serials in their order (R64). -/
def newSegs (kind : SegKind) (anchored : Bool) : List (Nat × Nat) → State → List Seg × State
  | [], s => ([], s)
  | (x, len) :: t, s =>
    let a := newSeg kind x len anchored s
    let b := newSegs kind anchored t a.2
    (a.1 :: b.1, b.2)

/-! ### Replan (R69) -/

/-- The smallest flat start at or after the cursor where a length overlaps no anchored record; the anchored
records come in ascending order (R69). -/
def placeStart (anchored : List Seg) (cursor len : Nat) : Nat :=
  anchored.foldl (fun x a => if x < segEnd a ∧ a.start < x + len then segEnd a else x) cursor

/-- The stretches between two positions that no anchored record covers (R69). -/
def openStretches : List Seg → Nat → Nat → List (Nat × Nat)
  | [], c, x => if c < x then [(c, x - c)] else []
  | a :: t, c, x =>
    if x ≤ a.start then (if c < x then [(c, x - c)] else [])
    else if segEnd a ≤ c then openStretches t c x
    else (if c < a.start then [(c, a.start - c)] else []) ++ openStretches t (segEnd a) x

/-- The movable records placed in their order, and the stretches left open before them (R69). -/
def placeMovable (anchored : List Seg) : List Seg → Nat → List Seg × List (Nat × Nat)
  | [], c =>
    ([], openStretches anchored c ((anchored.getLast?.map (·.start)).getD c))
  | g :: t, c =>
    let x := placeStart anchored c g.len
    let rest := placeMovable anchored t (x + g.len)
    ({ g with start := x } :: rest.1, openStretches anchored c x ++ rest.2)

/-- A replan of these movable records, in this order, among these anchored ones (R69, R70). -/
def replanWith (movable anchored : List Seg) (s : State) : State :=
  let placed := placeMovable anchored movable s.planOrigin
  let s1 := withSegs (movable ++ anchored) s
  let fills := newSegs .gap false placed.2 s1
  withSegs (mergeGaps (sortSegs (placed.1 ++ anchored ++ fills.1))) fills.2

/-- The movable records of the plan, in order. -/
def State.movable (s : State) : List Seg := s.plan.segs.filter fun g => !g.anchored

/-- The anchored records of the plan, in ascending flat start. -/
def State.anchored (s : State) : List Seg := s.plan.segs.filter fun g => g.anchored

/-- A replan of the plan as it stands (R69). -/
def replan (s : State) : State := replanWith s.movable s.anchored s

/-! ### Class separation (R65) -/

/-- Compatible classes (R65). -/
def compatible (s : State) (a b : Nat) : Bool :=
  let ca := s.cls a
  let cb := s.cls b
  s.zoneList.all fun z =>
    decide (((classSet ca z : Int) - (classSet cb z : Int)).natAbs ≤ min ca.tol cb.tol)

/-- The separation length from class a to class b (R65). -/
def separation (s : State) (a b : Nat) : Nat :=
  if compatible s a b then s.par Par.panelGap
  else max (s.par Par.panelGap) (s.boxLen + s.par Par.cellLen)

/-- The last PANEL of a run of plan records, with its flat end. -/
def lastPanel (segs : List Seg) : Option (PanelId × Nat) :=
  (segs.filterMap fun g => (panelOf g.kind).map fun id => (id, segEnd g)).getLast?

/-- The PANEL at the blade, with its flat end. -/
def State.bladePanelEnd (s : State) : Option (PanelId × Nat) :=
  s.fold.seg.bind fun g => (panelOf g.kind).map fun id => (id, g.start + g.len)

/-- The newest PANEL of the set map, with its flat end. -/
def newestPanel (s : State) : Option (PanelId × Nat) :=
  (s.plan.setMap.filterMap fun r => (panelOf r.kind).map fun id => (id, r.start + r.len)).getLast?

/-- The preceding panel of the point behind these plan records, with its flat end (R65). -/
def precedingPanel (before : List Seg) (s : State) : Option (PanelId × Nat) :=
  ((lastPanel before).or s.bladePanelEnd).or (newestPanel s)

/-! ### Planning and cancelling -/

/-- Live panels: in the plan, at the blade or in the set map. -/
def State.livePanels (s : State) : List PanelId :=
  s.plan.segs.filterMap (fun g => panelOf g.kind) ++ s.plan.setMap.filterMap (fun r => panelOf r.kind)
    ++ (match s.bladePanel with | some id => [id] | none => [])

/-- A record appended at the plan end, a GAP merging with a GAP already last (R67, R70, R74). -/
def appendSeg (kind : SegKind) (len : Nat) (s : State) : State :=
  let a := newSeg kind s.planEnd len false s
  withSegs (mergeGaps (s.plan.segs ++ [a.1])) a.2

/-- The GAP that goes before a panel appended at the plan end (R67). -/
def appendGapFor (cls : Nat) (s : State) : State :=
  let len :=
    match precedingPanel s.plan.segs s with
    | some p => separation s p.1.cls cls
    | none => s.par Par.panelGap
  if len = 0 then s else appendSeg .gap len s

/-- The plan with a panel appended (R67), use counts aside. -/
def appendPanel (id : PanelId) (s : State) : State :=
  appendSeg (.panel id) (((s.slot id.slot).totals.map (·.f)).getD 0) (appendGapFor id.cls s)

/-- The lowest zone whose SET_z + TOL exceeds ZONE_LIMIT (R66, check 5). -/
def unfitZone (s : State) (c : FabricClass) : Option Nat :=
  s.zoneList.find? fun z => decide (s.par Par.zoneLimit < classSet c z + c.tol)

/-- A totals field of a slot, 0 where none. -/
def slotTotal (f : Totals → Nat) (p : PatSlot) : Nat := (p.totals.map f).getD 0

/-- The serial and flat start of the last plan segment as answer words (R67, R206). -/
def plannedWords (s : State) : List Word :=
  match s.plan.segs.getLast? with
  | some g => word g.serial.toNat :: wideWords g.start
  | none => [noneWord, noneWord, noneWord]

/-- PLAN_PANEL on operands in range: the eight checks, then the insertion (R66, R67). -/
def planPanelOn (id : PanelId) (s : State) : State × Answer :=
  let p := s.slot id.slot
  let c := s.cls id.cls
  if s.table.state ≠ .set then (s, .refused .lineUnset 0)
  else if p.state = .free ∨ p.state = .opened then (s, .refused .slotNotReady 0)
  else if c.isDefined = false then (s, .refused .classUndefined 0)
  else if s.par Par.depthMax < slotTotal (·.dMax) p then
    (s, .refused .patternUnfit (slotTotal (·.dMax) p))
  else
    match unfitZone s c with
    | some z => (s, .refused .classUnfit z)
    | none =>
      if slotTotal (·.o) p < 2 * s.par Par.cellLen then (s, .refused .orderTooShort (slotTotal (·.o) p))
      else if s.livePanels.any (fun x => x.order == id.order) then (s, .refused .orderIdInUse 0)
      else
        let s1 := appendPanel id s
        if Config.planPanelBound < s1.plan.segs.length then (s, .refused .planFull s1.plan.segs.length)
        else (raiseUse id s1, .done (plannedWords s1))

/-- PLAN_PANEL (R66). -/
def reqPlanPanel (args : List Word) (s : State) : State × Answer :=
  match args with
  | [o, n, c] =>
    if o.toNat = 0 ∨ 65535 < o.toNat ∨ 31 < n.toNat ∨ 15 < c.toNat then (s, .malformed)
    else planPanelOn { order := o.toNat, remake := 0, slot := n.toNat, cls := c.toNat } s
  | _ => (s, .malformed)

/-- The PANEL record at an index becomes a GAP and merges; its panel's use counts fall (R68). -/
def cancelAt (i : Nat) (id : PanelId) (s : State) : State :=
  lowerUse id (withSegs (mergeGaps (s.plan.segs.modify i fun g => { g with kind := .gap })) s)

/-- Is a cancellation barred: the classes of preceding and following panel are incompatible and would stand
too close? The answer is the following panel's order id (R68). -/
def separationBar (i : Nat) (s : State) : Option Nat :=
  match precedingPanel (s.plan.segs.take i) s with
  | none => none
  | some p =>
    match (s.plan.segs.drop (i + 1)).find? fun g => isPanel g.kind with
    | none => none
    | some f =>
      match panelOf f.kind with
      | none => none
      | some q =>
        if !compatible s p.1.cls q.cls && decide (f.start < p.2 + (s.boxLen + s.par Par.cellLen)) then
          some q.order
        else none

/-- The index of the plan's PANEL of an order id, with what it names. -/
def planIndex (order : Nat) (s : State) : Option (Nat × PanelId) :=
  (s.plan.segs.zipIdx.filterMap fun x =>
    (panelOf x.1.kind).bind fun id => if id.order = order then some (x.2, id) else none).head?

/-- CANCEL_PANEL (R68). -/
def reqCancelPanel (args : List Word) (s : State) : State × Answer :=
  match args with
  | [o] =>
    if o.toNat = 0 ∨ 65535 < o.toNat then (s, .malformed)
    else
      match planIndex o.toNat s with
      | some (i, id) =>
        match separationBar i s with
        | some q => (s, .refused .classSeparation q)
        | none => (cancelAt i id s, .done [])
      | none =>
        if s.livePanels.any (fun x => x.order == o.toNat) then (s, .refused .started 0)
        else (s, .refused .notFound 0)
  | _ => (s, .malformed)

/-! ### Overflow (R64) -/

/-- The index of the plan's last PANEL. -/
def lastPanelIndex (s : State) : Option (Nat × PanelId) :=
  (s.plan.segs.zipIdx.filterMap fun x => (panelOf x.1.kind).map fun id => (x.2, id)).getLast?

/-- Two SPLICE records next to each other, or with only a GAP between, become one; the pair nearest the plan
end is taken (R64; DESIGN CHOICE for which pair is newest, notes/assumptions/21.md). -/
def joinSplices : List Seg → Option (List Seg)
  | [] => none
  | a :: t =>
    match joinSplices t with
    | some t' => some (a :: t')
    | none =>
      if a.kind = .splice then
        match t with
        | [] => none
        | b :: u =>
          if b.kind = .splice then some ({ a with len := segEnd b - a.start } :: u)
          else if b.kind = .gap then
            match u with
            | [] => none
            | c :: v => if c.kind = .splice then some ({ a with len := segEnd c - a.start } :: v) else none
          else none
      else none

/-- A plan left with more than 32 segments by a change that cannot be refused is cut back (R64). -/
def trimLoop : Nat → State → State
  | 0, s => s
  | fuel + 1, s =>
    if s.plan.segs.length ≤ Config.planPlaces then s
    else
      match lastPanelIndex s with
      | some (i, id) => trimLoop fuel (recordFault 213 (.order id.order) (cancelAt i id s))
      | none =>
        match joinSplices s.plan.segs with
        | some segs => trimLoop fuel (withSegs segs s)
        | none => s

/-- The forced-growth rule of R64. Each round removes a PANEL or a record, so two rounds a record suffice. -/
def trimPlan (s : State) : State := trimLoop (2 * s.plan.segs.length) s

/-! ### Windows (R74, R75) -/

/-- The plan with a WINDOW record placed in the order of movable segments, or appended (R74). -/
def placeWindow (s : State) : SegSerial × State :=
  let t := s.pUnwind + s.par Par.prepDist
  let len := s.par Par.windowLen
  match s.movable.findIdx? fun g => decide (t ≤ g.start) with
  | some i =>
    let a := newSeg .window 0 len false s
    (a.1.serial, replanWith (s.movable.take i ++ a.1 :: s.movable.drop i) s.anchored a.2)
  | none =>
    let s1 := if s.planEnd < t then appendSeg .gap (t - s.planEnd) s else s
    let s2 := appendSeg .window len s1
    (s2.plan.counter, s2)

/-- A window reservation: the window's serial and the plan with it, or none when it waits (R74). -/
def reserveWindow (s : State) : Option (SegSerial × State) :=
  let r := placeWindow s
  if Config.planReserveBound < r.2.plan.segs.length then none else some r

/-- The WINDOW becomes anchored where it stands (R75). -/
def commitWindow (s : State) : State :=
  withSegs (s.plan.segs.map fun g => if g.kind = .window then { g with anchored := true } else g) s

/-- The WINDOW becomes a movable GAP where it stands (R75). -/
def releaseWindow (s : State) : State :=
  withSegs
    (mergeGaps (s.plan.segs.map fun g =>
      if g.kind = .window then { g with kind := .gap, anchored := false } else g)) s

/-! ### Splices (R76 to R79) -/

/-- The part of a splice at the blade; the flag says that it marked a PANEL (R77). -/
def splicePanel (g : BladeSeg) (id : PanelId) (s : State) : State :=
  recordFault 481 (.order id.order) (modRec g.serial (fun r => { marked .splice r with splice := true }) s)

/-- A splice in waste at the blade makes its record, and FOLD's copy, of kind SPLICE (R77). -/
def spliceWaste (g : BladeSeg) (s : State) : State :=
  let s1 := modRec g.serial (fun r => { r with kind := .splice, splice := true }) s
  { s1 with fold := { s1.fold with seg := some { g with kind := .splice } } }

/-- The WINDOW record replaced in place by GAP, SPLICE and GAP (R78). -/
def consumeWindow (w : Seg) (p b : Nat) (s : State) : State :=
  let g1 := newSegs .gap false (if w.start < p then [(w.start, p - w.start)] else []) s
  let x := newSeg .splice p (b - p) true g1.2
  let g2 := newSegs .gap false (if b < segEnd w then [(b, segEnd w - b)] else []) x.2
  withSegs
    (mergeGaps (s.plan.segs.flatMap fun g => if g = w then g1.1 ++ x.1 :: g2.1 else [g])) g2.2

/-- An anchored SPLICE inserted on the stretch, less what an anchored SPLICE covers, and a replan (R78). -/
def insertSplice (p b : Nat) (s : State) : State :=
  let spliced := s.anchored.filter fun g => g.kind == .splice
  let x := newSegs .splice true (openStretches spliced p b) s
  replanWith s.movable (sortSegs (s.anchored ++ x.1)) x.2

/-- The plan's committed WINDOW. -/
def State.committedWindow (s : State) : Option Seg :=
  s.plan.segs.find? fun g => g.kind == .window && g.anchored

/-- The committed WINDOW that the stretch from p to b lies wholly within, if one does (R78). -/
def windowAround (p b : Nat) (s : State) : Option Seg :=
  s.plan.segs.find? fun g => g.kind == .window && g.anchored && decide (g.start ≤ p ∧ b ≤ segEnd g)

/-- Does the stretch from p to b overlap a committed WINDOW (R78)? -/
def windowTouched (p b : Nat) (s : State) : Bool :=
  s.plan.segs.any fun g => g.kind == .window && g.anchored && decide (g.start < b ∧ p < segEnd g)

/-- The plan part of a splice extent, from p to b (R78, R64). -/
def splicePlan (p b : Nat) (s : State) : State :=
  trimPlan
    (match windowAround p b s with
     | some w => consumeWindow w p b s
     | none => insertSplice p b (if windowTouched p b s then releaseWindow s else s))

/-- Set the remake disposition of a set-map record. -/
def setDisposition (serial : SegSerial) (d : Disposition) (s : State) : State :=
  modRec serial (fun r => { r with disposition := d }) s

/-- The movable records with a remake and its GAPs among them (R79; which PANEL follows: DEDUCED,
notes/assumptions/35.md). New serials: the remake, the GAP before it, the GAP after it (DESIGN CHOICE,
notes/assumptions/14.md). -/
def remakeOrder (id : PanelId) (s : State) : List Seg × State :=
  let a := newSeg (.panel id) 0 (slotTotal (·.f) (s.slot id.slot)) false s
  let split : List Seg × List Seg × List (Nat × Nat) :=
    match s.movable with
    | g :: t =>
      if g.kind = .gap then ([g], t, []) else ([], g :: t, [(0, s.par Par.panelGap)])
    | [] => ([], [], [(0, s.par Par.panelGap)])
  let before := newSegs .gap false (split.2.2.filter fun x => x.2 != 0) a.2
  let gapAfter : Nat :=
    match (split.2.1.filterMap fun g => panelOf g.kind).head? with
    | some q => separation s id.cls q.cls
    | none => 0
  let after := newSegs .gap false ([(0, gapAfter)].filter fun x => x.2 != 0) before.2
  (split.1 ++ before.1 ++ a.1 :: after.1 ++ split.2.1, after.2)

/-- The remake decision for a panel at the blade that a splice has spoiled (R79). -/
def decideRemake (serial : SegSerial) (id : PanelId) (s : State) : State :=
  if (s.findRec serial).any (fun r => r.disposition == .none) then
    if 2 ≤ id.remake then recordFault 211 (.order id.order) (setDisposition serial .remakeLimit s)
    else
      let id' := { id with remake := id.remake + 1 }
      let m := remakeOrder id' s
      let s1 := replanWith m.1 s.anchored m.2
      if Config.planReserveBound < s1.plan.segs.length then
        recordFault 212 (.order id.order) (setDisposition serial .planFull s)
      else raiseUse id' (setDisposition serial .remade s1)
  else s

/-- PLAN takes a splice record: the paste position a (R76 to R79). -/
def spliceRecord (a : Nat) (s : State) : State :=
  let b := a + s.par Par.spliceLen
  let origin := s.planOrigin
  let plan := fun (s : State) => if origin < b then splicePlan (max a origin) b s else s
  match (if a < origin then s.fold.seg else none) with
  | none => plan s
  | some g =>
    match panelOf g.kind with
    | some id => decideRemake g.serial id (plan (splicePanel g id s))
    | none => plan (spliceWaste g s)

/-! ### The set map (R80, R81) -/

/-- The set head of a segment taken now (R81). -/
def nextHead (s : State) : Nat :=
  match s.plan.setMap.getLast? with
  | some r => r.head + r.outLen
  | none => s.setPos

/-- A record as it enters the set map (R81). -/
def enterRec (g : Seg) (kind : SegKind) (head outLen : Nat) : SetRec :=
  { serial := g.serial, kind := kind, start := g.start, len := g.len, head := head, outLen := outLen,
    splice := kind == .splice, first := none, firstHeat := none, rejects := 0, folds := 0, maxLate := 0, disposition := .none,
    cells := 0, minAge := none, maxAge := none, maxExposure := 0, verdict := none }

/-- A PANEL taken at the blade (R71, R81, R42). -/
def takePanel (g : Seg) (id : PanelId) (s : State) : State :=
  let p := s.slot id.slot
  let r := enterRec g g.kind (nextHead s) (slotTotal (·.o) p)
  setCond .planEmpty false
    { s with
      plan := { s.plan with setMap := s.plan.setMap ++ [r] }
      fold := { s.fold with
                seg := some { serial := g.serial, kind := g.kind, start := g.start, len := g.len,
                              walk := some (startWalk p id.slot g.start) } } }

/-- A newest record that is no PANEL takes a non-PANEL in (R81). -/
def absorbed (r : SetRec) (kind : SegKind) (len : Nat) : SetRec :=
  { r with
    len := r.len + len, outLen := r.outLen + len
    kind := if kind = .splice then .splice else r.kind
    splice := r.splice || kind == .splice }

/-- A non-PANEL taken at the blade; a WINDOW enters as a GAP (R81, R75). -/
def takeWaste (g : Seg) (s : State) : State :=
  let kind : SegKind := if g.kind = .splice then .splice else .gap
  let fresh := enterRec g kind (nextHead s) g.len
  let r :=
    match s.plan.setMap.getLast? with
    | some l => if isPanel l.kind then fresh else absorbed l kind g.len
    | none => fresh
  let older :=
    match s.plan.setMap.getLast? with
    | some l => if isPanel l.kind then s.plan.setMap else s.plan.setMap.dropLast
    | none => s.plan.setMap
  { s with
    plan := { s.plan with setMap := older ++ [r] }
    fold := { s.fold with
              seg := some { serial := r.serial, kind := r.kind, start := r.start, len := r.len,
                            walk := none } } }

/-- A segment, no longer in the plan, taken at the blade (R71, R81). -/
def takeSeg (g : Seg) (s : State) : State :=
  match panelOf g.kind with
  | some id => takePanel g id s
  | none => takeWaste g s

/-! ### The cutter (R83 to R85) -/

/-- Cycles as ms, saturating (R84). -/
def cyclesToMs (s : State) (cycles : Nat) : Nat := min Config.cycleCountMax (cycles * s.par Par.cycleUs / 1000)

/-- The completion entry of a PANEL record (R84). -/
def completionOf (s : State) (id : PanelId) (r : SetRec) : Completion :=
  { id := id, first := r.first, folds := r.folds, maxLate := r.maxLate,
    minDwell := cyclesToMs s (r.minAge.getD 0), maxDwell := cyclesToMs s (r.maxAge.getD 0),
    exposure := cyclesToMs s r.maxExposure, disposition := r.disposition }

/-- A completion entry joins the log; a full log drops its oldest (R85). -/
def logCompletion (c : Completion) (p : Plan) : Plan :=
  if p.log.length < Config.logPlaces then { p with log := p.log ++ [c] }
  else { p with log := p.log.tail ++ [c], discard := true }

/-- May the oldest record be cut (R83)? -/
def cutDue (s : State) (r : SetRec) : Bool :=
  !atBlade s r && decide ((s.par Par.lCut : Int) ≤ tailDistance s r) && (!isPanel r.kind || r.cells == 0)

/-- The oldest record is cut: CUTTER_CMD, the set map, the log and the use counts (R83, R84). -/
def cutRec (r : SetRec) (older : List SetRec) (s : State) : State :=
  let p := { s.plan with cutSerial := s.plan.cutSerial + 1, setMap := older }
  match panelOf r.kind with
  | some id =>
    lowerUse id
      { s with plan := logCompletion (completionOf s id r) { p with divert := r.first.isSome } }
  | none => { s with plan := { p with divert := true } }

/-- The cut test of a used cycle frame (R83). -/
def cutTest (s : State) : State :=
  match s.plan.setMap with
  | r :: t => if cutDue s r then cutRec r t s else s
  | [] => s

/-- PLAN after LINE_RESET: plan, set map and log emptied, origin mark 0; serials, cut serial and divert kept
(R87). -/
def planLineReset (p : Plan) : Plan :=
  { p with segs := [], originMark := 0, setMap := [], log := [], discard := false }

end Sys2Proof.Machine
end

