-- ==== Sys2Proof/Machine/Heat.lean ====
section
/-! DEFINITION. The Heat Setter: class requests (R90, R91), zones and readings (R93, R94), the cell line
(R95 to R100), zone commands (R103 to R106), standby (R107) and warm-up (R108 to R110). -/
namespace Sys2Proof.Machine

/-- Change HEAT. -/
def modHeat (f : Heat → Heat) (s : State) : State := { s with heat := f s.heat }

/-- A cycle count grown by an elapsed count, saturating (R95, R107, R109). -/
def countGrown (n e : Nat) : Nat := min Config.cycleCountMax (n + e)

/-! ### Zones (R93) -/

/-- The cell behind the last cell of zone z (R93). -/
def zoneEnd (s : State) (z : Nat) : Nat :=
  if z = s.par Par.zoneCount then s.par Par.cellCount else zoneFirst s.table.applied (z + 1)

/-- Does cell i lie in zone z (R93)? -/
def inZone (s : State) (z i : Nat) : Bool := decide (zoneFirst s.table.applied z ≤ i ∧ i < zoneEnd s z)

/-- The reading of a zone (R94). -/
def State.zone (s : State) (z : Nat) : Option Nat := s.heat.zones.getD (z - 1) none

/-- Does a class's band in zone z contain a reading? A reading of none lies outside (R89, R94). -/
def inBand (c : FabricClass) (z : Nat) (reading : Option Nat) : Bool :=
  match reading with
  | some r => decide (classSet c z ≤ r + c.tol ∧ r ≤ classSet c z + c.tol)
  | none => false

/-- The class of a cell's owner, by the owning PANEL's set-map record (R96). -/
def ownerClass (s : State) (serial : SegSerial) : Option FabricClass :=
  ((s.findRec serial).bind fun r => panelOf r.kind).map fun id => s.cls id.cls

/-! ### Aging (R96, R100) -/

/-- Is cell i of this class in a zone whose reading lies outside the class's band (R96)? -/
def outOfBand (s : State) (c : FabricClass) (i : Nat) : Bool :=
  s.zoneList.any fun z => inZone s z i && !inBand c z (s.zone z)

/-- One cell aged by an elapsed count (R96). -/
def agedCell (s : State) (e : Nat) (i : Nat) (c : Cell) : Cell :=
  match c.owner with
  | none => c
  | some o =>
    { c with
      age := countGrown c.age e
      exposure :=
        if (ownerClass s o).any (fun k => outOfBand s k i) then countGrown c.exposure e else c.exposure }

/-- OVERDWELL: some owned cell's age exceeds its owner's MAX_DWELL (R100). -/
def overdwell (s : State) : Bool :=
  s.heat.cells.any fun c =>
    match c.owner with
    | none => false
    | some o => (ownerClass s o).any fun k => decide (k.maxDwell * 1000 < c.age * s.par Par.cycleUs)

/-- Judge OVERDWELL (R100). -/
def judgeOverdwell (s : State) : State := setCond .overdwell (overdwell s) s

/-- HEAT ages the cells by a used frame's elapsed count (R96). -/
def ageCells (e : Nat) (s : State) : State :=
  judgeOverdwell (modHeat (fun h => { h with cells := h.cells.mapIdx fun i c => agedCell s e i c }) s)

/-! ### Shifts and exits (R97 to R99) -/

/-- A heat reason reaches a panel; the fault is recorded when the panel did not hold it (R98). -/
def markHeat (serial : SegSerial) (order : Nat) (r : Reject) (detail : Nat) (s : State) : State :=
  if (s.findRec serial).any (holdsReason r) then s
  else recordFault detail (.order order) (markRec serial r s)

/-- The owner's record after one of its cells has exited (R97, R98). -/
def cellExited (c : Cell) (r : SetRec) : SetRec :=
  { r with
    cells := r.cells - 1
    minAge := some (match r.minAge with | some a => min a c.age | none => c.age)
    maxAge := some (match r.maxAge with | some a => max a c.age | none => c.age)
    maxExposure := max r.maxExposure c.exposure }

/-- The exit of an owned cell is judged against its owner's class (R98). -/
def judgeExit (o : SegSerial) (id : PanelId) (c : Cell) (s : State) : State :=
  let k := s.cls id.cls
  let us := s.par Par.cycleUs
  let s1 := modRec o (cellExited c) s
  let s2 :=
    if c.age * us < k.minDwell * 1000 then markHeat o id.order .underset 311 s1
    else if k.maxDwell * 1000 < c.age * us then markHeat o id.order .overset 312 s1
    else s1
  if k.bandAllow * 1000 < c.exposure * us then markHeat o id.order .band 313 s2 else s2

/-- A cell leaves the box (R97, R98). -/
def exitCell (c : Cell) (s : State) : State :=
  match c.owner with
  | none => s
  | some o =>
    match (s.findRec o).bind fun r => panelOf r.kind with
    | some id => judgeExit o id c s
    | none => s

/-- The set-map PANEL whose set extent contains a set coordinate (R97). -/
def ownerAt (s : State) (x : Int) : Option SegSerial :=
  (s.plan.setMap.find? fun r =>
    isPanel r.kind && decide ((r.head : Int) ≤ x ∧ x < ((r.head + r.outLen : Nat) : Int))).map (·.serial)

/-- One shift, falling at set position `at` (R97). -/
def shiftOnce (fall : Int) (s : State) : State :=
  let s1 :=
    match s.heat.cells.getLast? with
    | some c => exitCell c s
    | none => s
  let owner := ownerAt s1 (fall - (s1.par Par.boxIn : Int))
  let s2 := modHeat (fun h => { h with cells := { owner := owner, age := 0, exposure := 0 } :: h.cells.dropLast }) s1
  judgeOverdwell
    (match owner with
     | some o => modRec o (fun r => { r with cells := r.cells + 1 }) s2
     | none => s2)

/-- The verdict of each PANEL that owns no cell and lies past the box becomes final; a final one stays (R99). -/
def finalVerdicts (s : State) : State :=
  let bound : Int := (s.par Par.boxIn + s.boxLen + s.par Par.cellLen : Nat)
  { s with
    plan := { s.plan with
              setMap := s.plan.setMap.map fun r =>
                if isPanel r.kind = true ∧ r.cells = 0 ∧ bound ≤ tailDistance s r ∧ r.verdict = none then
                  { r with verdict := some (heatVerdict r) }
                else r } }

/-- A set advance, from this set position on, reaches HEAT (R97, R99). -/
def heatAdvance (before adv : Nat) (s : State) : State :=
  if s.heat.cells.isEmpty || adv == 0 then s
  else
    let len := s.par Par.cellLen
    let acc := s.heat.acc
    let n := (acc + adv) / len
    let s1 :=
      (List.range n).foldl
        (fun t j => shiftOnce ((before : Int) + (((j + 1) * len : Nat) : Int) - (acc : Int)) t) s
    finalVerdicts (modHeat (fun h => { h with acc := acc + adv - n * len }) s1)

/-! ### Readings (R94, R101, R102) -/

/-- The lowest zone above ZONE_LIMIT (R101). -/
def zoneAbove (s : State) : Option Nat :=
  s.zoneList.find? fun z => (s.zone z).any fun r => decide (s.par Par.zoneLimit < r)

/-- Judge ZONE_OVER (R101). -/
def judgeZoneOver (s : State) : State :=
  match zoneAbove s with
  | some z => raiseCond .zoneOver 321 (.signal (Sg.zoneTempBase + z)) s
  | none => setCond .zoneOver false s

/-- A fresh ZONE_TEMP_z sample sets the reading of a zone that exists (R93, R94; DEDUCED,
notes/assumptions/12.md). -/
def takeZone (z v : Nat) (s : State) : State :=
  if 1 ≤ z ∧ z ≤ s.par Par.zoneCount then modHeat (fun h => { h with zones := h.zones.set (z - 1) (some v) }) s
  else s

/-- A fresh BOX_PRESS sample sets the pressure reading (R94). -/
def takePress (v : Nat) (s : State) : State := modHeat (fun h => { h with press := some v }) s

/-! ### Zone commands (R103 to R106) -/

/-- The panel owning the lowest-index owned cell of zone z (R104). -/
def zoneOwner (s : State) (z : Nat) : Option SegSerial :=
  (s.heat.cells.zipIdx.filterMap fun x => if inZone s z x.2 then x.1.owner else none).head?

/-- The owner of the highest-index owned cell below zone z (R104). -/
def ownerBelow (s : State) (z : Nat) : Option SegSerial :=
  (s.heat.cells.zipIdx.filterMap fun x =>
    if x.2 < zoneFirst s.table.applied z then x.1.owner else none).getLast?

/-- The oldest set-map PANEL that owns no cell and whose tail distance is below BOX_IN (R104). -/
def panelBeforeBox (s : State) : Option PanelId :=
  (s.plan.setMap.filterMap fun r =>
    if r.cells = 0 ∧ tailDistance s r < (s.par Par.boxIn : Int) then panelOf r.kind else none).head?

/-- The first PANEL of the plan. -/
def firstPlanned (s : State) : Option PanelId := (s.plan.segs.filterMap fun g => panelOf g.kind).head?

/-- The target class of zone z (R104). -/
def targetClass (s : State) (z : Nat) : Option Nat :=
  let owned := fun (o : SegSerial) => ((s.findRec o).bind fun r => panelOf r.kind).map (·.cls)
  ((((zoneOwner s z).bind owned).or ((ownerBelow s z).bind owned)).or ((panelBeforeBox s).map (·.cls))).or
    ((firstPlanned s).map (·.cls))

/-- The target setpoint of zone z (R104). -/
def targetSetpoint (s : State) (z : Nat) : Nat :=
  match targetClass s z with
  | some c => classSet (s.cls c) z
  | none => s.par Par.standbySet

/-- The zone command of zone z: setpoint, and true for a valve OPEN (R105; R93 above ZONE_COUNT). -/
def zoneCommand (s : State) (z : Nat) : Nat × Bool :=
  if s.par Par.zoneCount < z then (0, false)
  else if s.heat.steam = false then (s.par Par.standbySet, false)
  else if s.purgeActive then (targetSetpoint s z, false)
  else
    match s.steamRestriction with
    | .vent => (targetSetpoint s z, false)
    | .close => (targetSetpoint s z, false)
    | .standby => (s.par Par.standbySet, true)
    | .keep =>
      if s.heat.phase = .standby then (s.par Par.standbySet, true) else (targetSetpoint s z, true)

/-- Is the valve of any zone 1 to ZONE_COUNT OPEN (R102, R105)? -/
def valveOpen (s : State) : Bool := s.zoneList.any fun z => (zoneCommand s z).2

/-- The VENT command, true for OPEN (R106). -/
def ventOpen (s : State) : Bool := s.purgeActive || s.steamRestriction == .vent

/-- PRESSURE_LOW becomes inactive when no zone valve is OPEN (R102). -/
def judgePressureValves (s : State) : State := if valveOpen s then s else setCond .pressureLow false s

/-- PRESSURE_LOW judged on the value of a fresh BOX_PRESS sample (R102). -/
def judgePress (v : Nat) (s : State) : State :=
  judgeCond .pressureLow (decide (v < s.par Par.pressMin) && valveOpen s) 331 (.signal Sg.boxPress) s

/-- HEAT's judgements once a used frame's readings are all taken: ZONE_OVER when a zone reading has changed since
`old`, PRESSURE_LOW when the frame brought a fresh BOX_PRESS sample (R94, R101, R102). -/
def heatJudges (press : Option Nat) (old s : State) : State :=
  let s1 := if s.heat.zones = old.heat.zones then s else judgeZoneOver s
  match press with
  | some v => judgePress v s1
  | none => s1

/-! ### Standby (R107) -/

/-- The phase a standby timer has reached, never an earlier one than it had (R107; DEDUCED,
notes/assumptions/30.md). -/
def phaseReached (delay warn timer : Nat) (p : StandbyPhase) : StandbyPhase :=
  if delay + warn ≤ timer then .standby
  else if delay ≤ timer then (if p = .standby then .standby else .warning)
  else p

/-- Does the standby timer grow now (R107)? -/
def standbyGrows (s : State) : Bool :=
  s.mode.mode == .halt && s.heat.steam && !s.purgeActive && s.steamRestriction == .keep

/-- A used frame's standby count (R107). -/
def countStandby (e : Nat) (s : State) : State :=
  if standbyGrows s then
    let t := countGrown s.heat.standbyTimer e
    modHeat
      (fun h =>
        { h with
          standbyTimer := t
          phase := phaseReached (s.par Par.standbyDelay) (s.par Par.standbyWarn) t h.phase }) s
  else s

/-! ### Warm-up (R108 to R110) -/

/-- The warm class (R108). -/
def warmClass (s : State) : Option Nat := (s.bladePanel.or (firstPlanned s)).map (·.cls)

/-- The zones are in band for the warm class (R108). -/
def zonesInBand (s : State) : Bool :=
  (warmClass s).any fun c => s.zoneList.all fun z => inBand (s.cls c) z (s.zone z)

/-- What a frame's warm-up judgement finds (R109, R110). -/
inductive WarmResult where
  | waiting | finished | timedOut
  deriving DecidableEq, Repr

/-- A used frame's warm-up counts (R109). -/
def countWarm (e : Nat) (s : State) : State :=
  modHeat
    (fun h =>
      { h with warm := countGrown h.warm e, stable := if zonesInBand s then countGrown h.stable e else 0 }) s

/-- The judgement of warm-up on the counts as they stand (R109, R110). -/
def warmResult (s : State) : WarmResult :=
  if s.par Par.warmStable ≤ s.heat.stable then .finished
  else if s.par Par.warmTimeout ≤ s.heat.warm then .timedOut
  else .waiting

/-! ### Requests (R90, R91) -/

/-- The argument index of the first class field out of range, 2 to 10 (R89, R90; DEDUCED,
notes/assumptions/34.md). -/
def badClassField (minD target maxD tol allow : Nat) (sets : List Nat) : Option Nat :=
  if minD < 100 ∨ 600000 < minD then some 2
  else if target < 100 ∨ 600000 < target ∨ target < minD then some 3
  else if maxD < 100 ∨ 600000 < maxD ∨ maxD < target then some 4
  else if tol < 5 ∨ 200 < tol then some 5
  else if 60000 < allow then some 6
  else (sets.findIdx? fun x => decide (2500 < x)).map (· + 7)

/-- Change a class. -/
def modClass (n : Nat) (f : FabricClass → FabricClass) (s : State) : State :=
  modHeat (fun h => { h with classes := h.classes.modify n f }) s

/-- WRITE_CLASS (R90). -/
def reqWriteClass (args : List Word) (s : State) : State × Answer :=
  match args.map (·.toNat) with
  | n :: d :: minD :: target :: maxD :: tol :: allow :: sets =>
    if sets.length ≠ 4 ∨ 15 < n ∨ 1 < d then (s, .malformed)
    else if 0 < (s.cls n).useCount then (s, .refused .inUse 0)
    else if d = 0 then (modClass n (fun _ => FabricClass.reset) s, .done [])
    else
      match badClassField minD target maxD tol allow sets with
      | some i => (s, .refused .outOfRange i)
      | none =>
        (modClass n
          (fun c =>
            { c with isDefined := true, minDwell := minD, targetDwell := target, maxDwell := maxD,
                     tol := tol, bandAllow := allow, sets := sets }) s, .done [])
  | _ => (s, .malformed)

/-- READ_CLASS (R91, R206). -/
def reqReadClass (args : List Word) (s : State) : State × Answer :=
  match args with
  | [n] =>
    if 15 < n.toNat then (s, .malformed)
    else
      let c := s.cls n.toNat
      (s, .done (word (bit c.isDefined + 256 * c.useCount) ::
        [c.minDwell, c.targetDwell, c.maxDwell, c.tol, c.bandAllow].map word ++ c.sets.map word))
  | _ => (s, .malformed)

/-! ### Resets (R95, R111) -/

/-- An EMPTY cell (R95). -/
def emptyCell : Cell := { owner := none, age := 0, exposure := 0 }

/-- The cell line built afresh with CELL_COUNT cells (R95). -/
def buildCells (s : State) : State :=
  modHeat (fun h => { h with cells := List.replicate (s.par Par.cellCount) emptyCell, acc := 0 }) s

/-- HEAT after LINE_RESET (R111). -/
def heatLineReset (h : Heat) : Heat :=
  { h with
    cells := h.cells.map fun _ => emptyCell
    acc := 0, stable := 0, warm := 0
    classes := h.classes.map fun c => { c with useCount := 0 } }

end Sys2Proof.Machine
end

