-- ==== Sys2Proof/Machine/Stands.lean ====
section
/-! DEFINITION. The unwind stands: roles and brakes (R127 to R130), deactivation (R148), the end of the web
(R132), samples (R128), removal (R149), and the window dealings of ROLL with PLAN (R138, R150). -/
namespace Sys2Proof.Machine

/-- Change ROLL. -/
def modRoll (f : Roll → Roll) (s : State) : State := { s with roll := f s.roll }

/-! ### Roles (R129, R130) -/

/-- The derived role of a stand (R129). -/
def derivedRole (s : State) (x : Stand) : Option Role :=
  match (s.stand x).diam with
  | none => none
  | some d =>
    if (s.entry (diamSignal x)).state = .lost then some .notReady
    else if d = 0 then some .absent
    else if s.par Par.changeDiam < d then some .ready
    else some .notReady

/-- Is a role given by a rule, and so not derived: ACTIVE, INCOMING or STOPPING? -/
def givenRole : Option Role → Bool
  | some .active => true
  | some .incoming => true
  | some .stopping => true
  | _ => false

/-- A stand's role ends and it takes its derived role (R129). -/
def endRole (x : Stand) (s : State) : State := modStand x (withRole (derivedRole s x) 0 0) s

/-- The derived role formed afresh on a stand whose role is not given (R129). -/
def rederive (x : Stand) (s : State) : State := if givenRole (s.stand x).role then s else endRole x s

/-- The stand that is not ACTIVE, if one is ACTIVE. -/
def State.standbyStand (s : State) : Option Stand := s.activeStand.map otherStand

/-! ### The end of the web (R132) -/

/-- Is the ACTIVE stand at its core, or its diameter LOST (R132)? -/
def webEnded (s : State) (x : Stand) : Bool :=
  (s.stand x).diam.any (fun d => decide (d ≤ s.par Par.coreDiam)) || (s.entry (diamSignal x)).state == .lost

/-- Judge WEB_END (R132). -/
def judgeWebEnd (s : State) : State :=
  match s.activeStand with
  | some x => judgeCond .webEnd (webEnded s x) 471 (.stand x) s
  | none => setCond .webEnd false s

/-! ### Deactivation (R148) -/

/-- A stand takes the role STOPPING and its first step (R148). -/
def startStop (steps : Nat) (x : Stand) (s : State) : State := modStand x (withRole (some .stopping) 1 steps) s

/-- The incoming stand is deactivated with three steps (R148). -/
def deactivateIncoming (s : State) : State :=
  match s.roll.incoming with
  | some x => startStop 3 x s
  | none => s

/-- A STOPPING stand's next step (R148). -/
def stopStep (x : Stand) (s : State) : State :=
  let r := s.stand x
  if r.role = some .stopping then
    if r.steps ≤ r.step + 1 then endRole x s
    else modRoll (fun r => { r with arm := false }) (modStand x (withRole r.role (r.step + 1) r.steps) s)
  else s

/-! ### The window (R138) -/

/-- ROLL asks PLAN for a window; a made reservation is RESERVED, a waiting one PENDING (R74, R138). -/
def requestWindow (s : State) : State :=
  match reserveWindow s with
  | some (serial, s') => modRoll (fun r => { r with winStatus := .reserved, winSerial := some serial }) s'
  | none => modRoll (fun r => { r with winStatus := .pending, winSerial := none }) s

/-- A RESERVED or COMMITTED window is released to PLAN, a PENDING reservation dropped; the window status
becomes NONE, its serial and the paste position none; other fields keep their values (R137, R138, R142, R143;
DESIGN CHOICE, unsafe, notes/assumptions/11.md). -/
def dropWindow (s : State) : State :=
  modRoll (fun r => { r with winStatus := .none, winSerial := none, pastePos := none })
    (if s.roll.winStatus = .reserved ∨ s.roll.winStatus = .committed then releaseWindow s else s)

/-- The sequencer takes a state. -/
def setSeq (st : SeqState) (s : State) : State := modRoll (fun r => { r with state := st }) s

/-- ROLL at the entry of the line into HOLD (R150). -/
def rollHold (s : State) : State :=
  match s.roll.state with
  | .prepare =>
    requestWindow (modRoll (fun r => { r with state := .armed, forced := false }) (dropWindow (deactivateIncoming s)))
  | _ => s

/-- ROLL at the entry of the line into HALTING (R150). -/
def rollHalting (s : State) : State :=
  match s.roll.state with
  | .armed => setSeq .idle (dropWindow s)
  | .prepare => setSeq .idle (dropWindow (deactivateIncoming s))
  | _ => s

/-- PLAN tells ROLL that its window was taken at the blade: in ARMED the status becomes NONE and a new
reservation is asked for (R138; DESIGN CHOICE for the moment, notes/assumptions/19.md). A COMMITTED one is a
miss, judged by R143. -/
def windowPassed (s : State) : State :=
  if s.roll.state = .armed ∧ s.roll.winStatus = .reserved ∧ s.window = none then
    requestWindow (modRoll (fun r => { r with winStatus := .none, winSerial := none }) s)
  else s

/-! ### Removal (R149) -/

/-- A change has failed: SPLICE_FAILED, the arming hold (R151, R149, R142, R143). -/
def spliceFailed (s : State) : State := setCond .spliceFailed true (modRoll (fun r => { r with hold := true }) s)

/-- The incoming stand in PREPARE, PASTE or CUT. -/
def incomingAtRisk (s : State) (x : Stand) : Bool :=
  s.roll.incoming == some x &&
    (s.roll.state == .prepare || s.roll.state == .paste || s.roll.state == .cut)

/-- The incoming stand is removed (R149; DEDUCED, notes/assumptions/23.md). -/
def removeIncoming (x : Stand) (s : State) : State :=
  if incomingAtRisk s x then
    let s1 := spliceFailed (recordFault 461 (.stand x) s)
    if s.roll.state = .prepare then setSeq .idle (dropWindow (startStop 3 x s1))
    else modRoll (fun r => { r with failed := true }) s1
  else s

/-! ### Samples (R128) -/

/-- Is this fresh diameter one that the ACTIVE stand does not take (R128)? -/
def diamHeld (r : StandRec) (d : Nat) : Bool := r.role == some .active && r.diam.any fun old => decide (old < d)

/-- A roll has been taken off the stand that is not ACTIVE: hold cleared, miss count 0 (R129). -/
def rollTakenOff (x : Stand) (s : State) : State :=
  if (s.stand x).role ≠ some .active ∧ incomingAtRisk s x = false then
    modRoll (fun r => { r with hold := false, missCount := 0 }) s
  else s

/-- A fresh STAND_x_DIAM sample sets the reading, but on the ACTIVE stand a value above it is not taken (R128). -/
def takeDiam (x : Stand) (d : Nat) (s : State) : State :=
  if diamHeld (s.stand x) d then s else modStand x (fun r => { r with diam := some d }) s

/-- A fresh STAND_x_SPEED sample sets the reading (R128). -/
def takeSpeed (x : Stand) (v : Nat) (s : State) : State := modStand x (fun r => { r with speed := some v }) s

/-! ### What the samples of a frame bring about (R128, R129, R132, R149) -/

/-- Has a stand's diameter reading, or the state of its diameter signal, changed since `old` (R129, R132)? -/
def diamChanged (old s : State) (x : Stand) : Bool :=
  (old.stand x).diam != (s.stand x).diam || (old.entry (diamSignal x)).state != (s.entry (diamSignal x)).state

/-- Has a stand's diameter reading become 0, or its diameter signal LOST, since `old` (R149)? -/
def diamGone (old s : State) (x : Stand) : Bool :=
  ((s.stand x).diam == some 0 && (old.stand x).diam != some 0) ||
    ((s.entry (diamSignal x)).state == .lost && (old.entry (diamSignal x)).state != .lost)

/-- A roll taken off this stand, when its fresh diameter is 0 (R129). -/
def judgeTakenOff (x : Stand) (fresh : Option Nat) (s : State) : State :=
  if fresh = some 0 then rollTakenOff x s else s

/-- The removal of this stand, when it is gone (R149). -/
def judgeRemoval (old : State) (x : Stand) (s : State) : State := if diamGone old s x then removeIncoming x s else s

/-- The derived role of this stand, formed afresh when its reading or signal state has changed (R129). -/
def judgeRole (old : State) (x : Stand) (s : State) : State := if diamChanged old s x then rederive x s else s

/-- WEB_END, judged when a stand's reading or signal state has changed (R132). -/
def judgeWebEndAfter (old s : State) : State :=
  if diamChanged old s .a || diamChanged old s .b then judgeWebEnd s else s

/-- ROLL's rules on the stand samples, once all of them are taken: `a` and `b` are the fresh diameters of the frame,
`old` the state before its samples (R128, R129, R132, R149). -/
def standsJudge (a b : Option Nat) (old s : State) : State :=
  let s1 := judgeTakenOff .b b (judgeTakenOff .a a s)
  let s2 := judgeRemoval old .b (judgeRemoval old .a s1)
  judgeWebEndAfter old (judgeRole old .b (judgeRole old .a s2))

end Sys2Proof.Machine
end

