-- ==== Sys2Proof/Machine/HandOver.lean ====
section
/-! DEFINITION. The hand-over at the blade: the test of R71, floating (R72), IDLE_GAPs (R73), and the windows
that pass the blade (R75). -/
namespace Sys2Proof.Machine

/-- A PANEL floats: a GAP before it is taken, and the plan is replanned (R72, R64). -/
def floatPanel (g : Seg) (s : State) : State :=
  let stop :=
    match s.anchored.head? with
    | some a => min s.pBlade a.start
    | none => s.pBlade
  let a := newSeg .gap g.start (stop - g.start) false s
  trimPlan (replan (takeSeg a.1 a.2))

/-- An IDLE_GAP is appended at the plan end and taken; in RUN the condition PLAN_EMPTY becomes active (R73). -/
def takeIdleGap (s : State) : State :=
  let a := newSeg .gap s.planEnd (s.par Par.idleGap) false s
  let s1 := takeSeg a.1 a.2
  if s.mode.mode = .run then setCond .planEmpty true s1 else s1

/-- One step of the hand-over test, or none when it stops (R71). -/
def handStep (s : State) : Option State :=
  if s.bladeDone = false then none
  else
    match s.plan.segs with
    | [] => if s.planEnd ≤ s.pBlade then some (takeIdleGap s) else none
    | g :: t =>
      if s.pBlade < g.start then none
      else if isPanel g.kind = false ∨ s.mode.mode = .run then some (takeSeg g (withSegs t s))
      else if g.start < s.pBlade then some (floatPanel g s)
      else none

/-- The hand-over test repeats its steps until one stops it (R71). -/
def handLoop : Nat → State → State
  | 0, s => s
  | fuel + 1, s =>
    match handStep s with
    | some t => handLoop fuel t
    | none => s

/-- The hand-over test, made only while the line table is SET (R71); a window taken by it is told to ROLL
(R75). Each step moves the plan origin on by 1 wu or more (notes/assumptions/29.md). -/
def handOver (s : State) : State :=
  if s.table.state = .set then
    windowPassed (handLoop (s.pBlade + 1 - s.planOrigin + s.plan.segs.length) s)
  else s

end Sys2Proof.Machine
end

