-- ==== Sys2Proof/Machine/Modes.lean ====
section
/-! DEFINITION. Entries and exits of the line modes (R103, R107, R109, R150, R163, R164) and the GOV commands
at the entry into HALTING (R123). -/
namespace Sys2Proof.Machine

/-- Change MODE. -/
def setMode (m : Mode) (s : State) : State := { s with mode := { s.mode with mode := m } }

/-- What the exit from the present mode does at other blocks: from RUN, PLAN_EMPTY becomes inactive (R73);
from HALT, the standby phase ends (R107). -/
def leaveMode (s : State) : State :=
  match s.mode.mode with
  | .run => setCond .planEmpty false s
  | .halt => modHeat (fun h => { h with phase := .none, standbyTimer := 0 }) s
  | _ => s

/-- GOV at the entry into HALTING: every speed command 0 (R123). -/
def govZero (g : Gov) : Gov :=
  { g with conv := 0, target := 0, cause := .mode, feed := 0, standA := 0, standB := 0 }

/-- The line enters HALTING, unless it is in HALT or HALTING (R163). A walk it aborts makes the segment at the
blade done, so the hand-over test follows (R71; order: notes/assumptions/18.md). -/
def enterHalting (cause : HaltCause) (s : State) : State :=
  if s.mode.mode = .halt ∨ s.mode.mode = .halting then s
  else
    let s1 := { leaveMode s with mode := { mode := .halting, step := 0, cause := cause } }
    let s2 := abortWalk .halted s1
    let s3 := rollHalting { s2 with gov := govZero s2.gov }
    if s.walking then handOver s3 else s3

/-- The line enters HOLD (R150, R156). -/
def enterHold (s : State) : State := rollHold (setMode .hold (leaveMode s))

/-- The line enters RUN (R71, R160). -/
def enterRun (s : State) : State := handOver (setMode .run (leaveMode s))

/-- The line enters WARMUP (R103, R109). -/
def enterWarmup (s : State) : State :=
  modHeat (fun h => { h with steam := true, stable := 0, warm := 0 }) (setMode .warmup (leaveMode s))

/-- The line enters THREAD (R156). -/
def enterThread (s : State) : State := setMode .thread (leaveMode s)

/-- The line enters DRAIN (R156). -/
def enterDrain (s : State) : State := setMode .drain (leaveMode s)

/-- The line enters HALT at the fourth step of HALTING (R164, R107, R50). -/
def enterHalt (s : State) : State :=
  let s1 := { s with mode := { s.mode with mode := .halt, step := 0 } }
  setCond .bladeOverrun false (modHeat (fun h => { h with phase := .counting, standbyTimer := 0 }) s1)

/-- A step of the HALTING safe sequence (R164). -/
def haltingStep (s : State) : State :=
  if s.mode.mode = .halting then
    if 3 ≤ s.mode.step then enterHalt s
    else { s with mode := { s.mode with step := s.mode.step + 1 } }
  else s

end Sys2Proof.Machine
end

