-- ==== Sys2Proof/Machine/Reactions.lean ====
section
/-! DEFINITION. The Reaction Unit: triggers (R185), the purge timer (R186, R187), mode actions (R162),
clearing (R189) and the requests WRITE_REACTION, READ_REACTION and ACK_REACTION (R183, R184, R189). -/
namespace Sys2Proof.Machine

/-- Is a condition of the entry's TRIGGER active (R185)? -/
def triggerActive (marks : BitVec 16) (e : ReactEntry) : Bool := (e.trigger &&& marks) != 0

/-- Change every reaction entry. -/
def mapReactions (f : ReactEntry → ReactEntry) (s : State) : State :=
  { s with react := { s.react with entries := s.react.entries.map f } }

/-- An APPLIED entry with AUTO_CLEAR returns to IDLE when its conditions are inactive (R189). -/
def autoCleared (marks : BitVec 16) (e : ReactEntry) : ReactEntry :=
  if e.state = .applied ∧ e.autoClear = true ∧ triggerActive marks e = false then { e with state := .idle } else e

/-- Is an entry to be triggered (R185)? -/
def triggerDue (marks : BitVec 16) (e : ReactEntry) : Bool :=
  e.enabled && e.state == .idle && triggerActive marks e

/-- An entry triggered when it is due: WAITING with its purge loaded, or APPLIED with PURGE_CYCLES 0 (R185). -/
def triggered (marks : BitVec 16) (e : ReactEntry) : ReactEntry :=
  if triggerDue marks e then
    { e with remaining := e.purgeCycles, state := if e.purgeCycles = 0 then .applied else .waiting }
  else e

/-! ### Purge timer (R186) -/

/-- The WAITING entry of highest PRIORITY, lowest index among equals, with its priority (R186). -/
def bestWaiting (entries : List ReactEntry) : Option (Nat × Nat) :=
  entries.zipIdx.foldl
    (fun best x =>
      if x.1.state = .waiting then
        match best with
        | none => some (x.2, x.1.priority)
        | some b => if b.2 < x.1.priority then some (x.2, x.1.priority) else some b
      else best) none

/-- The timer is arbitrated (R186). -/
def arbitrate (s : State) : State :=
  match bestWaiting s.react.entries with
  | none => s
  | some (i, prio) =>
    match s.purgeHolder with
    | none => modReaction i (fun e => { e with state := .purge }) s
    | some h =>
      if (s.reaction h).priority < prio then
        modReaction i (fun e => { e with state := .purge }) (modReaction h (fun e => { e with state := .waiting }) s)
      else s

/-! ### Mode actions and the judging of an event -/

/-- An entry that reaches APPLIED asks MODE for its MODE_ACTION once (R162; the index of a halt cause: DEDUCED,
notes/assumptions/36.md). -/
def askMode (i : Nat) (s : State) : State :=
  match (s.reaction i).modeAction with
  | .none => s
  | .halt => enterHalting (.reaction i) s
  | .hold => if s.mode.mode = .run ∨ s.mode.mode = .drain then enterHold s else s

/-- The entries that a trigger makes APPLIED at once, in index order (R185, R187). -/
def appliedNow (s : State) : List Nat :=
  (s.react.entries.zipIdx.filter fun x => triggerDue s.react.marks x.1 && x.1.purgeCycles == 0).map (·.2)

/-- One round of an event at REACT: entries cleared, entries triggered, the timer arbitrated, the valves'
pressure judgement (R102), and the mode actions asked in index order (notes/assumptions/5.md). -/
def settleRound (s : State) : State :=
  let s1 := mapReactions (autoCleared s.react.marks) s
  let asks := appliedNow s1
  let s2 := mapReactions (triggered s1.react.marks) s1
  let s3 := judgePressureValves (arbitrate s2)
  asks.foldl (fun t i => askMode i t) s3

/-- Rounds until nothing changes at REACT. -/
def settleLoop : Nat → State → State
  | 0, s => s
  | fuel + 1, s =>
    let t := settleRound s
    if t.react = s.react then t else settleLoop fuel t

/-- REACT judges an event (R181, R185, R186, R189; at most eight rounds, notes/assumptions/5.md). -/
def settle (s : State) : State := settleLoop 8 s

/-- The entry in PURGE counts down; at 0 it becomes APPLIED, frees the timer and asks MODE (R187). -/
def purgeCount (e : Nat) (s : State) : State :=
  match s.purgeHolder with
  | none => s
  | some h =>
    let left := (s.reaction h).remaining - e
    if left = 0 then askMode h (modReaction h (fun r => { r with remaining := 0, state := .applied }) s)
    else modReaction h (fun r => { r with remaining := left }) s

/-! ### Requests -/

/-- The index of an argument word out of its field's range, 1 to 9 (R182, R183; DEDUCED,
notes/assumptions/34.md). -/
def badReactionField (en trig prio act cap steam purge inh auto : Word) : Option Nat :=
  if 1 < en.toNat then some 1
  else if 65535 < trig.toNat ∨ (en.toNat = 1 ∧ trig.toNat = 0) then some 2
  else if prio.toNat < 1 ∨ 3 < prio.toNat then some 3
  else if 2 < act.toNat then some 4
  else if cap ≠ noneWord ∧ 100000 < cap.toNat then some 5
  else if 3 < steam.toNat then some 6
  else if 65535 < purge.toNat then some 7
  else if 1 < inh.toNat then some 8
  else if 1 < auto.toNat then some 9
  else none

/-- MODE_ACTION by its code (R206). -/
def modeActionOf (n : Nat) : ModeAction := if n = 0 then .none else if n = 1 then .hold else .halt

/-- STEAM_ACTION by its code (R206). -/
def steamActionOf (n : Nat) : SteamAction :=
  if n = 0 then .keep else if n = 1 then .standby else if n = 2 then .close else .vent

/-- WRITE_REACTION (R183). -/
def reqWriteReaction (args : List Word) (s : State) : State × Answer :=
  match args with
  | [i, en, trig, prio, act, cap, steam, purge, inh, auto] =>
    if 7 < i.toNat then (s, .malformed)
    else if (s.reaction i.toNat).state ≠ .idle then (s, .refused .notIdle 0)
    else
      match badReactionField en trig prio act cap steam purge inh auto with
      | some k => (s, .refused .outOfRange k)
      | none =>
        (settle
          (modReaction i.toNat
            (fun e =>
              { e with
                enabled := en.toNat == 1, trigger := BitVec.ofNat 16 trig.toNat, priority := prio.toNat,
                modeAction := modeActionOf act.toNat,
                speedCap := if cap = noneWord then none else some cap.toNat,
                steamAction := steamActionOf steam.toNat, purgeCycles := purge.toNat,
                inhibit := inh.toNat == 1, autoClear := auto.toNat == 1 }) s), .done [])
  | _ => (s, .malformed)

/-- READ_REACTION (R184, R206). -/
def reqReadReaction (args : List Word) (s : State) : State × Answer :=
  match args with
  | [i] =>
    if 7 < i.toNat then (s, .malformed)
    else
      let e := s.reaction i.toNat
      (s, .done
        [flagWord e.enabled, word e.trigger.toNat, word e.priority, word (actionCode e.modeAction),
         optWord e.speedCap, word (steamCode e.steamAction), word e.purgeCycles, flagWord e.inhibit,
         flagWord e.autoClear, word (reactCode e.state), word e.remaining, flagWord (e.state == .purge)])
  | _ => (s, .malformed)

/-- The lowest active condition of a TRIGGER other than SPLICE_FAILED (R189). -/
def stillActive (marks : BitVec 16) (e : ReactEntry) : Option Nat :=
  (List.range 16).find? fun n => n != condNum .spliceFailed && e.trigger.getLsbD n && marks.getLsbD n

/-- The effect of an accepted acknowledgement (R189, R151). -/
def acknowledge (i : Nat) (s : State) : State :=
  let s1 := if (s.reaction i).trigger.getLsbD (condNum .spliceFailed) then setCond .spliceFailed false s else s
  settle (modReaction i (fun e => { e with state := .idle }) s1)

/-- ACK_REACTION (R189). -/
def reqAckReaction (args : List Word) (s : State) : State × Answer :=
  match args with
  | [i] =>
    if 7 < i.toNat then (s, .malformed)
    else if (s.reaction i.toNat).state ≠ .applied then (s, .refused .notApplied 0)
    else
      match stillActive s.react.marks (s.reaction i.toNat) with
      | some n => (s, .refused .stillActive n)
      | none => (acknowledge i.toNat s, .done [])
  | _ => (s, .malformed)

/-- A reaction entry after LINE_RESET (R190). -/
def reactionLineReset (e : ReactEntry) : ReactEntry := { e with state := .idle, remaining := 0 }

end Sys2Proof.Machine
end

