-- ==== Sys2Proof/Machine/Governor.lean ====
section
/-! DEFINITION. The Speed Governor: the six limits (R115 to R120), target and cause (R121), the ramp (R122),
feed and stand speeds (R124, R125). -/
namespace Sys2Proof.Machine

/-- A panel with the serial it is named by. -/
abbrev NamedPanel := SegSerial × PanelId

/-- The plan PANELs whose flat start is at or below P_blade + HORIZON (R116, R118). -/
def plannedWithin (s : State) : List NamedPanel :=
  s.plan.segs.filterMap fun g =>
    if g.start ≤ s.pBlade + s.par Par.horizon then (panelOf g.kind).map fun id => (g.serial, id) else none

/-- The governed panels: set map, blade, plan (R116). The panel at the blade is a set-map record too. -/
def governedPanels (s : State) : List NamedPanel :=
  (s.plan.setMap.filterMap fun r =>
    if atBlade s r = true ∨ tailDistance s r ≤ ((s.par Par.boxIn + s.boxLen : Nat) : Int) then
      (panelOf r.kind).map fun id => (r.serial, id)
    else none) ++ plannedWithin s

/-- The panels that set the stroke limit: the panel at the blade while WALKING, and the plan's (R118). -/
def strokePanels (s : State) : List NamedPanel :=
  (if s.walking then
    (match s.fold.seg with
     | some g => (match panelOf g.kind with | some id => [(g.serial, id)] | none => [])
     | none => [])
   else []) ++ plannedWithin s

/-- The smallest figure over panels with the serial of the panel that gives it: the first among equals
(DESIGN CHOICE, notes/assumptions/15.md). -/
def smallestOver (figure : PanelId → Nat) (ps : List NamedPanel) : Option (Nat × SegSerial) :=
  ps.foldl
    (fun best p =>
      match best with
      | none => some (figure p.2, p.1)
      | some b => if figure p.2 < b.1 then some (figure p.2, p.1) else some b) none

/-- The dwell figure of a panel (R117). -/
def dwellFigure (s : State) (id : PanelId) : Nat := s.boxLen * 1000 / (s.cls id.cls).targetDwell

/-- The stroke figure of a panel (R118). -/
def strokeFigure (s : State) (id : PanelId) : Nat :=
  s.par Par.strokeRate * slotTotal (·.pMin) (s.slot id.slot) / 60

/-- The splice limit (R119). -/
def spliceLimit (s : State) : Option Nat :=
  match s.roll.state with
  | .idle => none
  | .armed => none
  | .prepare => some (s.par Par.spliceSpeed)
  | .paste => some (s.par Par.spliceSpeed)
  | .cut => some (s.par Par.spliceSpeed)
  | .settle => some (s.par Par.spliceSpeed)

/-- The mode limit (R119). -/
def modeLimit (s : State) : Option Nat :=
  match s.mode.mode with
  | .halt => some 0
  | .halting => some 0
  | .hold => some 0
  | .thread => some (s.par Par.crawl)
  | .warmup => some (s.par Par.crawl)
  | .run => none
  | .drain => none

/-- The held request of a master speed request: a value below 0 is taken as 0 (R115). -/
def heldRequest (speed : Word) : Nat := if speed.msb then 0 else speed.toNat

/-- The limits of a computation (R115 to R120). -/
def limitsOf (held : Nat) (s : State) : Limits :=
  { request := some (min held (s.par Par.lineMax))
    dwell := (smallestOver (dwellFigure s) (governedPanels s)).map (·.1)
    stroke := (smallestOver (strokeFigure s) (strokePanels s)).map (·.1)
    splice := spliceLimit s
    mode := modeLimit s
    reaction := s.speedCap }

/-- The target: the smallest of the limits in force (R121). -/
def targetOf (l : Limits) : Nat :=
  (optMin (optMin (optMin l.request l.dwell) (optMin l.stroke l.splice)) (optMin l.mode l.reaction)).getD 0

/-- The limit cause: the first limit equal to the target in the order of R121. -/
def causeOf (l : Limits) (target : Nat) : LimitCause :=
  if l.mode = some target then .mode
  else if l.reaction = some target then .reaction
  else if l.splice = some target then .splice
  else if l.dwell = some target then .dwell
  else if l.stroke = some target then .stroke
  else .request

/-- The ramped conveyor command, lowered to the request limit (R122). -/
def rampedCommand (accel decel e previous target requestLimit : Nat) : Nat :=
  min requestLimit
    (if previous < target then min target (previous + accel * e)
     else if target < previous then max target (previous - decel * e)
     else previous)

/-- The feed ratio in use (R124). -/
def feedRatio (s : State) : Nat :=
  if s.walking then
    (match s.bladePanel with
     | some id => slotTotal (·.ratio) (s.slot id.slot)
     | none => 65536)
  else 65536

/-- A stand's speed command by its role (R125). -/
def standSpeed (feed : Nat) (role : Option Role) : Nat :=
  match role with
  | some .active => feed
  | some .incoming => feed
  | _ => 0

/-- The computation of a used cycle frame with this master speed request and elapsed count (R114). -/
def govern (speed : Word) (e : Nat) (s : State) : State :=
  let held := heldRequest speed
  let l := limitsOf held s
  let target := targetOf l
  let conv :=
    rampedCommand (s.par Par.accelStep) (s.par Par.decelStep) e s.gov.conv target (min held (s.par Par.lineMax))
  let ratio := feedRatio s
  let product := conv * ratio / 65536
  let feed := min Config.feedCommandMax product
  { s with
    gov :=
      { conv := conv, target := target, cause := causeOf l target, request := held, ratio := ratio, feed := feed,
        standA := standSpeed feed s.roll.standA.role, standB := standSpeed feed s.roll.standB.role,
        limits := l, governed := (governedPanels s).length,
        dwellSerial := (smallestOver (dwellFigure s) (governedPanels s)).map (·.2),
        strokeSerial := (smallestOver (strokeFigure s) (strokePanels s)).map (·.2),
        saturated := decide (Config.feedCommandMax < product) } }

end Sys2Proof.Machine
end

