-- ==== Sys2Proof/Machine/RollChange.lean ====
section
/-! DEFINITION. The roll change sequencer (R133 to R147) and its three requests (R131, R136, R137). -/
namespace Sys2Proof.Machine

/-! ### Paste, cut and settle (R134, R144 to R147) -/

/-- The cut is made: CUT is entered (R145). -/
def enterCut (s : State) : State :=
  modRoll
    (fun r =>
      { r with pasteFlight := false, cutSerial := r.cutSerial + 1, cutFlight := true, confirmAge := 0,
               state := .cut }) s

/-- The stand that was ACTIVE stops with two steps (R147). -/
def stopActive (s : State) : State :=
  match s.activeStand with
  | some x => startStop 2 x s
  | none => s

/-- The incoming stand becomes ACTIVE (R147). -/
def activateIncoming (s : State) : State :=
  match s.roll.incoming with
  | some x => modStand x (withRole (some .active) 0 0) s
  | none => s

/-- SETTLE is entered (R146, R147). -/
def enterSettle (s : State) : State :=
  judgeWebEnd
    (modRoll (fun r => { r with cutFlight := false, arm := false, settleCount := 0, state := .settle })
      (activateIncoming (stopActive s)))

/-- The subject of the incoming stand's faults. -/
def incomingSubject (s : State) : Subject :=
  match s.roll.incoming with
  | some x => .stand x
  | none => .none

/-- A paste or cut has timed out: the fault, SPLICE_FAILED and change failed (R145, R146). -/
def handshakeFailed (detail : Nat) (s : State) : State :=
  modRoll (fun r => { r with failed := true })
    (setCond .spliceFailed true (recordFault detail (incomingSubject s) s))

/-- One used frame's confirmation age in PASTE (R145). -/
def agePaste (s : State) : State :=
  let age := min 255 (s.roll.confirmAge + 1)
  let s1 := modRoll (fun r => { r with confirmAge := age }) s
  if s.par Par.pasteTimeout ≤ age then enterCut (handshakeFailed 431 s1) else s1

/-- One used frame's confirmation age in CUT (R146). -/
def ageCut (s : State) : State :=
  let age := min 255 (s.roll.confirmAge + 1)
  let s1 := modRoll (fun r => { r with confirmAge := age }) s
  if s.par Par.cutTimeout ≤ age then enterSettle (handshakeFailed 441 s1) else s1

/-- A held serial with nothing in flight, after a fresh done-serial (R134). -/
def resynced (held done : Serial8) : Serial8 := if done = held ∨ done = held - 1 then held else done

/-- The cut serial of a fresh SPLICE_STATE (R134, R146). -/
def takeCutDone (done : Serial8) (s : State) : State :=
  if s.roll.cutFlight then (if done = s.roll.cutSerial then enterSettle s else s)
  else modRoll (fun r => { r with cutSerial := resynced r.cutSerial done }) s

/-- The paste serial of a fresh SPLICE_STATE (R134, R145). -/
def takePasteDone (done : Serial8) (s : State) : State :=
  if s.roll.pasteFlight then (if done = s.roll.pasteSerial then enterCut s else s)
  else modRoll (fun r => { r with pasteSerial := resynced r.pasteSerial done }) s

/-- A fresh SPLICE_STATE sample (R134). The cut serial is taken before the paste serial
(DESIGN CHOICE, notes/assumptions/32.md). -/
def takeSplice (paste cut : Serial8) (s : State) : State :=
  let s1 := modRoll (fun r => { r with lastPaste := paste, lastCut := cut }) s
  if s.roll.synced then takePasteDone paste (takeCutDone cut s1)
  else modRoll (fun r => { r with pasteSerial := paste, cutSerial := cut, synced := true }) s1

/-- A change reaches IDLE from SETTLE (R147, R151). -/
def endSettle (s : State) : State :=
  let s1 := modRoll (fun r => { r with state := .idle, incoming := none, forced := false, missCount := 0 }) s
  if s.roll.failed then s1 else setCond .spliceFailed false (modRoll (fun r => { r with hold := false }) s1)

/-- A used frame's settle count (R147). -/
def settleCountStep (e : Nat) (s : State) : State :=
  let n := min 65535 (s.roll.settleCount + e)
  let s1 := modRoll (fun r => { r with settleCount := n }) s
  if s.par Par.settleCycles ≤ n then endSettle s1 else s1

/-! ### Judgements before GOV (R133, step 3) -/

/-- A mode in which changes are armed and windows committed: RUN or DRAIN (R135, R138, R140). -/
def changeMode (s : State) : Bool := s.mode.mode == .run || s.mode.mode == .drain

/-- Is the ACTIVE stand's diameter reading at or below a bound? -/
def activeAtOrBelow (bound : Nat) (s : State) : Bool :=
  s.activeStand.any fun x => (s.stand x).diam.any fun d => decide (d ≤ bound)

/-- A forced change is due (R140). -/
def forcedDue (s : State) : Bool :=
  (s.roll.state == .idle || s.roll.state == .armed) && changeMode s && activeAtOrBelow (s.par Par.critDiam) s

/-- An automatic arming is due (R135). -/
def armingDue (s : State) : Bool :=
  s.roll.state == .idle && changeMode s && activeAtOrBelow (s.par Par.changeDiam) s && !s.roll.hold
    && decide (s.roll.missCount < 3)

/-- The other stand when it is READY (R135, R140). -/
def readyStandby (s : State) : Option Stand :=
  match s.standbyStand with
  | some x => if (s.stand x).role = some .ready then some x else none
  | none => none

/-- The no-standby episode of a used frame (R135, R140). -/
def judgeNoStandby (s : State) : State :=
  if (forcedDue s || armingDue s) && (readyStandby s).isNone then
    if s.roll.noStandby then s
    else
      modRoll (fun r => { r with noStandby := true })
        (recordFault 451 (match s.standbyStand with | some x => .stand x | none => .none) s)
  else modRoll (fun r => { r with noStandby := false }) s

/-- PREPARE is entered with this incoming stand (R139). -/
def enterPrepare (x : Stand) (s : State) : State :=
  modStand x (withRole (some .incoming) 0 0)
    (modRoll
      (fun r =>
        { r with state := .prepare, incoming := some x, arm := true, armStand := x, matchCount := 0,
                 confirmAge := 0, matchTimer := 0, matched := false, failed := false }) s)

/-- A forced change is made (R140). -/
def forceChange (x : Stand) (s : State) : State :=
  enterPrepare x (modRoll (fun r => { r with forced := true, pastePos := some s.pUnwind }) (dropWindow s))

/-- The sequencer goes to ARMED with this incoming stand, and the window is asked for (R135, R136, R138). -/
def arm (x : Stand) (s : State) : State :=
  requestWindow
    (modRoll (fun r => { r with state := .armed, incoming := some x, forced := false, missCount := 0 }) s)

/-- ARMED is abandoned: no stand is ACTIVE, or the other one is NOT_READY or ABSENT (R138). -/
def armedAbandoned (s : State) : Bool :=
  match s.standbyStand with
  | none => true
  | some x => (s.stand x).role == some .notReady || (s.stand x).role == some .absent

/-- ARMED without the commit: abandonment, or a PENDING reservation asked for again (R138; order:
notes/assumptions/33.md). -/
def judgeArmed (s : State) : State :=
  if armedAbandoned s then setSeq .idle (dropWindow s)
  else if s.roll.winStatus = .pending then requestWindow s
  else s

/-- A RESERVED window within PREP_DIST is committed (R138, R139). -/
def judgeCommit (s : State) : State :=
  match s.roll.incoming, s.window with
  | some x, some w =>
    if s.roll.state = .armed ∧ s.roll.winStatus = .reserved ∧ changeMode s = true ∧
        (s.stand x).role ≠ some .stopping ∧ w.start ≤ s.pUnwind + s.par Par.prepDist then
      enterPrepare x
        (modRoll
          (fun r =>
            { r with winStatus := .committed, pastePos := some (w.start + s.par Par.windowMargin) })
          (commitWindow s))
    else s
  | _, _ => s

/-- Is the window of a change in PREPARE missed (R143)? -/
def windowMissed (s : State) : Bool :=
  !s.roll.forced &&
    (s.roll.pastePos.any (fun p => decide (p + s.par Par.windowMargin < s.pUnwind)) ||
      (s.roll.winStatus == .committed && s.committedWindow.isNone))

/-- A missed window (R143). -/
def missWindow (s : State) : State :=
  let s1 :=
    modRoll (fun r => { r with missCount := min 3 (r.missCount + 1) }) (recordFault 411 (incomingSubject s) s)
  let s2 := dropWindow (deactivateIncoming s1)
  if s2.roll.missCount < 3 then requestWindow (setSeq .armed s2)
  else setSeq .idle (spliceFailed (recordFault 412 (incomingSubject s) s2))

/-- Ready to paste: matched and the splicer serials synchronised (R141). -/
def readyToPaste (s : State) : Bool := s.roll.matched && s.roll.synced

/-- The match timer of a used frame in PREPARE (R141; its place in the frame: notes/assumptions/46.md). -/
def growMatchTimer (e : Nat) (s : State) : State :=
  if readyToPaste s then s
  else modRoll (fun r => { r with matchTimer := min 65535 (r.matchTimer + e) }) s

/-- The match has timed out (R142). -/
def matchTimedOut (s : State) : State :=
  setSeq .idle (dropWindow (deactivateIncoming (spliceFailed (recordFault 421 (incomingSubject s) s))))

/-- The judgement of the match timer as it stands (R142). -/
def judgeMatchTimeout (s : State) : State :=
  if s.par Par.matchTimeout ≤ s.roll.matchTimer then matchTimedOut s else s

/-- Step 3 of R133 in PREPARE: the match timer grows (R141), then the miss is judged (R143), then, in a change
still in PREPARE, the match timeout (R142). That the timer grows before both judgements of its frame, so that the change
fails in the frame whose growth reaches MATCH_TIMEOUT, is the model's choice: DESIGN CHOICE, unsafe,
notes/assumptions/46.md. -/
def judgePrepare (e : Nat) (s : State) : State :=
  let s1 := growMatchTimer e s
  if windowMissed s1 then missWindow s1 else judgeMatchTimeout s1

/-- The judgements of the present state that do not need the feed command: one of them in each used frame
(R133 step 3; notes/assumptions/10.md). -/
def rollJudge (e : Nat) (s0 : State) : State :=
  let s := judgeNoStandby s0
  match s.roll.state with
  | .idle =>
    match readyStandby s with
    | some x => if forcedDue s then forceChange x s else if armingDue s then arm x s else s
    | none => s
  | .armed =>
    match (if forcedDue s then readyStandby s else none) with
    | some x => forceChange x s
    | none => judgeCommit (judgeArmed s)
  | .prepare => judgePrepare e s
  | .paste => s
  | .cut => s
  | .settle => s

/-! ### Match and paste after GOV (R133, step 4) -/

/-- The fresh speed sample of the incoming stand in this frame, if it brought one. -/
def freshIncomingSpeed (s : State) : Option Nat :=
  s.roll.incoming.bind fun x =>
    let g := s.entry (speedSignal x)
    if g.state = .fresh ∧ g.stale = g.staleLimit then (s.stand x).speed else none

/-- The match judgement (R141). -/
def judgeMatch (s : State) : State :=
  match freshIncomingSpeed s with
  | none => s
  | some v =>
    let near := decide (((v : Int) - (s.gov.feed : Int)).natAbs ≤ s.par Par.matchTol)
    let n := if near then min 255 (s.roll.matchCount + 1) else 0
    modRoll (fun r => { r with matchCount := n, matched := decide (s.par Par.matchStable ≤ n) }) s

/-- Is the paste to be made (R144)? -/
def pasteDue (s : State) : Bool :=
  readyToPaste s &&
    s.roll.pastePos.any fun p =>
      decide (p ≤ s.pUnwind) && (s.roll.forced || decide (s.pUnwind ≤ p + s.par Par.windowMargin))

/-- The paste (R144, R76). -/
def makePaste (s : State) : State :=
  spliceRecord s.pUnwind
    (modRoll
      (fun r =>
        { r with pasteSerial := r.pasteSerial + 1, armStand := r.incoming.getD r.armStand, pasteFlight := true,
                 confirmAge := 0, state := .paste, winStatus := .none, winSerial := none, pastePos := none }) s)

/-- The match judgement and the paste step, after GOV's computation (R133 step 4). -/
def matchAndPaste (s : State) : State :=
  if s.roll.state = .prepare then
    let s1 := judgeMatch s
    if pasteDue s1 then makePaste s1 else s1
  else s

/-! ### Requests -/

/-- The other stand's ACTIVE role ends when a stand is named (R131). -/
def endActive (x : Stand) (s : State) : State :=
  if (s.stand x).role = some .active then endRole x s else s

/-- The effect of an accepted SET_ACTIVE_STAND; `none` ends any ACTIVE role (R131, R132). -/
def nameActive (x : Option Stand) (s : State) : State :=
  let s1 := modRoll (fun r => { r with missCount := 0, hold := false }) s
  judgeWebEnd
    (match x with
     | some x => modStand x (withRole (some .active) 0 0) (endActive (otherStand x) s1)
     | none => endActive .b (endActive .a s1))

/-- The stand an argument word names; `none` for none (R131). -/
def standOfWord (n : Nat) : Option Stand := if n = 0 then some .a else if n = 1 then some .b else none

/-- SET_ACTIVE_STAND (R131). -/
def reqSetActiveStand (args : List Word) (s : State) : State × Answer :=
  match args with
  | [n] =>
    if 2 < n.toNat then (s, .malformed)
    else if s.mode.mode ≠ .halt then (s, .refused .wrongMode 0)
    else if s.roll.state ≠ .idle ∨ s.roll.standA.role = some .stopping ∨ s.roll.standB.role = some .stopping then
      (s, .refused .busy 0)
    else if (standOfWord n.toNat).any (fun x => !s.present x) then (s, .refused .notPresent 0)
    else (settle (nameActive (standOfWord n.toNat) s), .done [])
  | _ => (s, .malformed)

/-- START_ROLL_CHANGE (R136). -/
def reqStartRollChange (args : List Word) (s : State) : State × Answer :=
  match args with
  | [] =>
    if s.mode.mode ≠ .run ∧ s.mode.mode ≠ .hold ∧ s.mode.mode ≠ .drain then (s, .refused .wrongMode 0)
    else if s.roll.state ≠ .idle then (s, .refused .busy 0)
    else if s.activeStand = none then (s, .refused .noActiveStand 0)
    else
      match readyStandby s with
      | none => (s, .refused .notReady 0)
      | some x => (settle (arm x (modRoll (fun r => { r with hold := false }) s)), .done [])
  | _ => (s, .malformed)

/-- The effect of an accepted CANCEL_ROLL_CHANGE (R137). -/
def cancelChange (s : State) : State :=
  setSeq .idle (modRoll (fun r => { r with hold := true }) (dropWindow s))

/-- CANCEL_ROLL_CHANGE (R137). -/
def reqCancelRollChange (args : List Word) (s : State) : State × Answer :=
  match args with
  | [] =>
    match s.roll.state with
    | .idle => (s, .refused .nothingToCancel 0)
    | .armed => (cancelChange s, .done [])
    | .prepare =>
      if s.roll.forced then (s, .refused .forced 0) else (cancelChange (deactivateIncoming s), .done [])
    | .paste => (s, .refused .tooLate 0)
    | .cut => (s, .refused .tooLate 0)
    | .settle => (s, .refused .tooLate 0)
  | _ => (s, .malformed)

/-! ### Reset (R152) -/

/-- The sequencer record and handshake after LINE_RESET (R152). -/
def rollLineReset (r : Roll) : Roll :=
  { r with
    state := .idle, incoming := none, forced := false, winStatus := .none, winSerial := none, pastePos := none,
    matchCount := 0, matched := false, matchTimer := 0, confirmAge := 0, settleCount := 0, missCount := 0,
    hold := false, failed := false, noStandby := false, pasteFlight := false, cutFlight := false, arm := false }

end Sys2Proof.Machine
end

