-- ==== Sys2Proof/Machine/Signals.lean ====
section
/-! DEFINITION. The Signal Monitor: freshness (R172 to R177), the ring error budget (R178), trip inputs
(R179, R180) and the requests WRITE_SIGNAL, READ_SIGNAL and ACK_TRIP (R170, R171, R180). -/
namespace Sys2Proof.Machine

/-! ### Ring error budget (R178) -/

/-- The budget lowered by receive errors; at 0 RING_DEGRADED becomes active (R178). -/
def lowerBudget (n : Nat) (s : State) : State :=
  if n = 0 then s
  else
    let s1 := { s with ring := { s.ring with budget := s.ring.budget - n } }
    if s1.ring.budget = 0 then raiseCond .ringDegraded 711 .none s1 else s1

/-- The end of an error window (R178). -/
def endWindow (s : State) : State :=
  let s1 := if 0 < s.ring.budget then setCond .ringDegraded false s else s
  { s1 with ring := { s1.ring with budget := s1.par Par.ringErrLimit, window := 0 } }

/-- A used frame's window count (R178). -/
def windowCount (e : Nat) (s : State) : State :=
  let n := min 65535 (s.ring.window + e)
  if s.par Par.ringErrWindow ≤ n then endWindow s else { s with ring := { s.ring with window := n } }

/-- The mapped signals in number order, with their slot indices. -/
def State.mapped (s : State) : List (Nat × Nat) :=
  s.sig.entries.zipIdx.filterMap fun x => x.1.slot.map fun k => (x.2, k)

/-- The SLOT_PARITY errors of a frame's named slots, and one LENGTH error when a mapped signal is missing
(R195). -/
def slotErrors (f : CycleFrame) (s : State) : Nat :=
  (s.mapped.filter fun x => (f.slots[x.2]?).any (slotDamaged x.2)).length
    + bit (s.mapped.any fun x => decide (f.slots.length ≤ x.2))

/-! ### Supervision (R172 to R176) -/

/-- SIGNAL_LOST and NODE_FAULT follow the supervision records (R174, R175). -/
def judgeSignalConds (s : State) : State :=
  setCond .nodeFault ((s.sig.entries.take 14).any (·.nodeOpen))
    (setCond .signalLost ((s.sig.entries.take 14).any fun g => g.state == .lost) s)

/-- A signal's LOST state handed to FOLD, which reads that of BLADE_STATE (R177, R45). ROLL reads the state of the
diameter signals from the map (`standsJudge`). -/
def handLost (i : Nat) (s : State) : State := if i = Sg.bladeState then bladeStateLost s else s

/-- A signal becomes LOST (R174). -/
def loseSignal (i : Nat) (s : State) : State :=
  handLost i
    (recordFault 611 (.signal i) (modEntry i (fun g => { g with stale := 0, state := .lost, lossOpen := true }) s))

/-- A used frame without a fresh sample of a signal (R174). -/
def notFresh (i : Nat) (s : State) : State :=
  let g := s.entry i
  if g.state ≠ .lost ∧ g.stale ≤ 1 then loseSignal i s
  else modEntry i (fun g => { g with stale := g.stale - 1 }) s

/-- A fresh sample's record (R172, R174). -/
def freshEntry (v : Word) (g : SigEntry) : SigEntry :=
  { g with stale := g.staleLimit, state := .fresh, lastGood := some v, lossOpen := false }

/-- Is a value in 0 to a bound, read as signed (R173)? -/
def within (bound : Nat) (v : Word) : Bool := decide (v.toNat ≤ bound) && !v.msb

/-- Is a sample's value plausible (R173)? -/
def plausible (s : State) (i : Nat) (v : Word) : Bool :=
  if i = Sg.feedPos then !isJump (s.par Par.maxDelta) s.pos.flat v
  else if i = Sg.convPos then !isJump (s.par Par.maxDelta) s.pos.conv v
  else if i = Sg.bladeState then v &&& 0xFFFCFF00 == 0
  else if i ≤ 6 then within 3000 v
  else if i = Sg.boxPress then within 10000 v
  else if i = Sg.webTension then within 65535 v
  else if i = Sg.spliceState then v &&& 0xFFFF0000 == 0
  else within 200000 v

/-- The blade status by its code (R204). -/
def bladeStatusOf (v : Word) : BladeStatus :=
  match (v.extractLsb' 16 2).toNat with
  | 0 => .ready
  | 1 => .busy
  | 2 => .parked
  | _ => .fault

/-- A fresh sample handed to its consumer, which takes its reading (R177); SPLICE_STATE follows them
(`judgeSlots`). -/
def handSample (i : Nat) (v : Word) (s : State) : State :=
  if i = Sg.feedPos then feedAccept v s
  else if i = Sg.convPos then convAccept v s
  else if i = Sg.bladeState then takeBladeState (bladeStatusOf v) (v.extractLsb' 0 8) s
  else if i ≤ 6 then takeZone (i - Sg.zoneTempBase) v.toNat s
  else if i = Sg.boxPress then takePress v.toNat s
  else if i = Sg.standASpeed then takeSpeed .a v.toNat s
  else if i = Sg.standBSpeed then takeSpeed .b v.toNat s
  else if i = Sg.standADiam then takeDiam .a v.toNat s
  else if i = Sg.standBDiam then takeDiam .b v.toNat s
  else s

/-- An implausible sample of an encoder is a jump (R173, R10, R14). -/
def encoderJump (i : Nat) (s : State) : State :=
  if i = Sg.feedPos then feedJump s else if i = Sg.convPos then convJump s else s

/-- Has a slot the right kind for its signal, and the expected node kind (R176)? -/
def slotRight (i : Nat) (g : SigEntry) (x : Slot) : Bool :=
  x.command == !isSample i && x.nodeKind.toNat == g.nodeKind

/-- A kind mismatch; the first of an episode records fault 631 (R176). -/
def kindMismatch (i : Nat) (s : State) : State :=
  if (s.entry i).kindOpen then s
  else recordFault 631 (.signal i) (modEntry i (fun g => { g with kindOpen := true }) s)

/-- A slot reporting NODE_FAULT; the first of an episode records fault 621 (R175). -/
def nodeFaulted (i : Nat) (s : State) : State :=
  if (s.entry i).nodeOpen then s
  else recordFault 621 (.signal i) (modEntry i (fun g => { g with nodeOpen := true }) s)

/-- What the tests of R172 find of a sample signal in a used cycle frame: the first that fails, or a fresh sample.
From test 4 on the finding carries the slot's toggle. -/
inductive Finding where
  | noSample
  | mismatch
  | nodeFault (toggle : Bool)
  | oldToggle (toggle : Bool)
  | implausible (toggle : Bool)
  | fresh (toggle : Bool) (value : Word)
  deriving DecidableEq, Repr

/-- The tests of R172, in their order, on slot k of a frame for sample signal i. -/
def finding (f : CycleFrame) (i k : Nat) (s : State) : Finding :=
  match f.slots[k]? with
  | none => .noSample
  | some x =>
    if slotDamaged k x then .noSample
    else if slotRight i (s.entry i) x = false then .mismatch
    else if x.nodeFault then .nodeFault x.toggle
    else if (s.entry i).toggle = some x.toggle then .oldToggle x.toggle
    else if plausible s i x.value then .fresh x.toggle x.value
    else .implausible x.toggle

/-- A slot that has passed tests 1 to 3: its toggle is stored and a mismatch episode ends (R172, R176). -/
def slotHeard (i : Nat) (toggle : Bool) (s : State) : State :=
  modEntry i (fun g => { g with kindOpen := false, toggle := some toggle }) s

/-- A slot that has passed test 4 as well: a node-fault episode ends (R175). -/
def slotOk (i : Nat) (toggle : Bool) (s : State) : State :=
  modEntry i (fun g => { g with nodeOpen := false }) (slotHeard i toggle s)

/-- A mapped sample signal judged in a used cycle frame (R172 to R177). -/
def judgeSlot (f : CycleFrame) (i k : Nat) (s : State) : State :=
  match finding f i k s with
  | .noSample => notFresh i s
  | .mismatch => notFresh i (kindMismatch i s)
  | .nodeFault t => notFresh i (nodeFaulted i (slotHeard i t s))
  | .oldToggle t => notFresh i (slotOk i t s)
  | .implausible t => notFresh i (encoderJump i (slotOk i t s))
  | .fresh t v => handSample i v (modEntry i (freshEntry v) (slotOk i t s))

/-- A mapped command signal of a used cycle frame: its kind-mismatch episode (R176). -/
def judgeCommand (f : CycleFrame) (i k : Nat) (s : State) : State :=
  match f.slots[k]? with
  | none => s
  | some x =>
    if slotDamaged k x then s
    else if slotRight i (s.entry i) x then modEntry i (fun g => { g with kindOpen := false }) s
    else kindMismatch i s

/-- SIG judges signal i in a used cycle frame (R172, R176). -/
def judgeSignal (f : CycleFrame) (i : Nat) (s : State) : State :=
  match (s.entry i).slot with
  | none => s
  | some k => if isSample i then judgeSlot f i k s else judgeCommand f i k s

/-- The value of the fresh sample of signal i that a frame brings, judged on the state before its samples (R172). -/
def freshValue (f : CycleFrame) (s : State) (i : Nat) : Option Word :=
  match (s.entry i).slot with
  | none => none
  | some k =>
    match finding f i k s with
    | .fresh _ v => some v
    | _ => none

/-- Has an encoder's position become saturated since `old` (R16)? -/
def saturatedSince (old s : State) : Bool :=
  (s.pos.flat.saturated && !old.pos.flat.saturated) || (s.pos.conv.saturated && !old.pos.conv.saturated)

/-- An encoder whose position has just saturated forces HALTING (R16, R163). That MODE's own entry, and with it the
halt cause POSITION_RANGE, comes before the entry of a HALT reaction which fault 811 triggers in the same event is
the model's choice: DESIGN CHOICE, unsafe, notes/assumptions/45.md. -/
def forceOnSaturation (old s : State) : State :=
  if saturatedSince old s then enterHalting .positionRange s else s

/-- What the consumers make of a used frame's samples once every one of them is taken: HEAT's conditions (R94, R101,
R102), ROLL's rules on its stands (R128, R129, R132, R149), MODE's forced entry (R16), and REACT on all of it. -/
def consumersJudge (f : CycleFrame) (old s : State) : State :=
  let diam := fun x => (freshValue f old (diamSignal x)).map (·.toNat)
  settle
    (forceOnSaturation old
      (standsJudge (diam .a) (diam .b) old (heatJudges ((freshValue f old Sg.boxPress).map (·.toNat)) old s)))

/-- ROLL takes a fresh SPLICE_STATE sample (R133 step 1, R134). -/
def spliceSample (v : Option Word) (s : State) : State :=
  match v with
  | some w => settle (takeSplice (w.extractLsb' 0 8) (w.extractLsb' 8 8) s)
  | none => s

/-- A used cycle frame's slots: SIG judges the signals and every reading is taken, then the consumers judge, then
the SPLICE_STATE sample is taken (R94, R128, R133, R172, R176, R177; order: notes/assumptions/31.md). -/
def judgeSlots (f : CycleFrame) (s : State) : State :=
  let s1 := judgeSignalConds ((List.range 27).foldl (fun t i => judgeSignal f i t) s)
  spliceSample (freshValue f s Sg.spliceState) (consumersJudge f s s1)

/-! ### Trip inputs (R179) -/

/-- A trip input's record. -/
def State.trip (s : State) : TripInput → Trip
  | .estop => s.sig.estop
  | .guard => s.sig.guard

/-- Change a trip input's record. -/
def modTrip (x : TripInput) (f : Trip → Trip) (s : State) : State :=
  match x with
  | .estop => { s with sig := { s.sig with estop := f s.sig.estop } }
  | .guard => { s with sig := { s.sig with guard := f s.sig.guard } }

/-- The mode of a trip input in the applied image, 0 for LEVEL and 1 for EDGE (R3, R179). -/
def tripMode (image : List Nat) : TripInput → Nat
  | .estop => paramOf image Par.tripEstopMode
  | .guard => paramOf image Par.tripGuardMode

/-- The condition of a trip input (R179). -/
def tripCond : TripInput → Cond
  | .estop => .estop
  | .guard => .guard

/-- The fault of a trip input (R179). -/
def tripFault : TripInput → Nat
  | .estop => 821
  | .guard => 831

/-- Judge a trip input's condition: the level in LEVEL mode, the latch in EDGE mode (R179). -/
def judgeTrip (x : TripInput) (s : State) : State :=
  judgeCond (tripCond x)
    (if tripMode s.table.applied x = 0 then (s.trip x).asserted else (s.trip x).latch) (tripFault x) .none s

/-- An assertion edge in EDGE mode sets the latch (R179). -/
def tripEdge (x : TripInput) (s : State) : State :=
  if tripMode s.table.applied x = 0 then s else modTrip x (fun t => { t with latch := true }) s

/-- The filtered level of a trip input becomes this (R179). -/
def tripChange (x : TripInput) (level : Bool) (s : State) : State :=
  let s1 := modTrip x (fun t => { t with asserted := level }) s
  judgeTrip x (if level && !(s.trip x).asserted then tripEdge x s1 else s1)

/-- A trip latch cleared, and the condition judged (R179, R180). -/
def clearLatch (x : TripInput) (s : State) : State := judgeTrip x (modTrip x (fun t => { t with latch := false }) s)

/-! ### Requests -/

/-- The other signal mapped to a slot index (R170). -/
def slotHolder (i k : Nat) (s : State) : Option Nat :=
  (s.mapped.find? fun x => x.1 != i && x.2 == k).map (·.1)

/-- A signal's entry after an accepted WRITE_SIGNAL (R170). -/
def mappedEntry (i k kind limit : Nat) (g : SigEntry) : SigEntry :=
  let m := { g with slot := if k = 64 then none else some k, nodeKind := kind, staleLimit := limit, kindOpen := false }
  if isSample i then
    { m with state := if k = 64 then .unmapped else .awaiting, stale := if k = 64 then 0 else limit,
             toggle := none, lossOpen := false, nodeOpen := false }
  else m

/-- WRITE_SIGNAL's effect; the roles and WEB_END are judged again, since a diameter signal's state may have
changed (R170, R129, R132). -/
def writeSignalOn (i k kind limit : Nat) (s : State) : State :=
  settle (judgeSignalConds (judgeWebEnd (rederive .b (rederive .a (modEntry i (mappedEntry i k kind limit) s)))))

/-- WRITE_SIGNAL (R170). -/
def reqWriteSignal (args : List Word) (s : State) : State × Answer :=
  match args.map (·.toNat) with
  | [i, k, kind, limit] =>
    if 26 < i then (s, .malformed)
    else if s.mode.mode ≠ .halt then (s, .refused .wrongMode 0)
    else if 64 < k ∨ 255 < kind ∨ (isSample i = true ∧ (limit < 1 ∨ 255 < limit)) then (s, .refused .outOfRange 0)
    else
      match (if k < 64 then slotHolder i k s else none) with
      | some j => (s, .refused .slotInUse j)
      | none => (writeSignalOn i k kind limit s, .done [])
  | _ => (s, .malformed)

/-- A stored toggle as an answer word, none when none (R206). -/
def toggleWord : Option Bool → Word
  | some b => flagWord b
  | none => noneWord

/-- A stored value as an answer word, none when none (R206). -/
def valueWord : Option Word → Word
  | some v => v
  | none => noneWord

/-- READ_SIGNAL's answer words: ten for a sample, four for a command (R171; notes/assumptions/20.md). -/
def signalWords (i : Nat) (g : SigEntry) : List Word :=
  [word (g.slot.getD 64), word g.nodeKind, word g.staleLimit] ++
    (if isSample i then
      [word (sigCode g.state), word g.stale, toggleWord g.toggle, valueWord g.lastGood, flagWord g.lossOpen,
       flagWord g.nodeOpen, flagWord g.kindOpen]
     else [flagWord g.kindOpen])

/-- READ_SIGNAL (R171). -/
def reqReadSignal (args : List Word) (s : State) : State × Answer :=
  match args with
  | [i] => if 26 < i.toNat then (s, .malformed) else (s, .done (signalWords i.toNat (s.entry i.toNat)))
  | _ => (s, .malformed)

/-- ACK_TRIP's answer word (R180, R206). -/
def tripWord (s : State) : Word :=
  word (bit s.sig.estop.asserted + 2 * bit s.sig.estop.latch + 4 * bit s.sig.guard.asserted
    + 8 * bit s.sig.guard.latch)

/-- ACK_TRIP (R180). -/
def reqAckTrip (args : List Word) (s : State) : State × Answer :=
  match args with
  | [n] =>
    if 2 < n.toNat then (s, .malformed)
    else
      let s1 := if n.toNat = 1 then s else clearLatch .estop s
      let s2 := if n.toNat = 0 then s1 else clearLatch .guard s1
      (settle s2, .done [tripWord s])
  | _ => (s, .malformed)

end Sys2Proof.Machine
end

