-- ==== Sys2Proof/Machine/LineTable.lean ====
section
/-! DEFINITION. The line table's requests (R2 to R6): ranges, cross-checks, and what an apply brings into
line. -/
namespace Sys2Proof.Machine

/-- The range of each parameter in number order (R3). -/
def paramRanges : List (Nat × Nat) :=
  [(250, 4000), (1, 16777215), (1, 16777215), (1, 65535), (0, 10000),
   (10000, 2000000), (1000, 1000000), (500, 50000), (16, 64), (1, 4)] ++
  [(2, 62), (2, 62), (2, 62), (1, 4000000), (0, 100000),
   (1000, 100000), (100, 5000), (10, 600), (1, 255), (0, 1000)] ++
  [(100, 100000), (0, 100000), (1, 10000), (1, 10000), (0, 4000000),
   (500, 2500), (0, 5000), (1, 16777215), (1, 16777215), (1, 16777215)] ++
  [(0, 65535), (0, 2500), (0, 200000), (0, 200000), (0, 200000),
   (0, 10000), (1, 255), (1, 65535), (1, 255), (1, 255)] ++
  [(1, 65535), (1000, 100000), (0, 4000000), (1000, 1000000), (0, 100000),
   (1, 100000), (1, 255), (1, 65535), (0, 1), (0, 1)]

/-- Is a value in its parameter's range? A CYCLE_US is also a multiple of 250 (R3). -/
def paramInRange (n : Nat) (v : Word) : Bool :=
  match paramRanges[n - 1]? with
  | none => false
  | some (lo, hi) => !v.msb && decide (lo ≤ v.toNat ∧ v.toNat ≤ hi ∧ (n = Par.cycleUs → v.toNat % 250 = 0))

/-- The plan and the set map hold no segment and none is at the blade (R2, R5). -/
def lineEmpty (s : State) : Bool := s.plan.segs.isEmpty && s.plan.setMap.isEmpty && s.fold.seg.isNone

/-- The first pair that fails check 3 or 4, with its reason (R2). -/
def badPair : List (Word × Word) → Nat → Option (Reason × Nat)
  | [], _ => none
  | p :: t, i =>
    if p.1.toNat < 1 ∨ 50 < p.1.toNat then some (.noSuchParam, i)
    else if paramInRange p.1.toNat p.2 then badPair t (i + 1)
    else some (.outOfRange, i)

/-- The pairs stored in an image in order (R2). -/
def storePairs (pairs : List (Word × Word)) (image : List Nat) : List Nat :=
  pairs.foldl (fun im p => im.set (p.1.toNat - 1) p.2.toNat) image

/-- Change the line table. -/
def modTable (f : LineTable → LineTable) (s : State) : State := { s with table := f s.table }

/-- The table leaves SET for EDIT: the cell line is removed and steam disabled (R7, R95, R100, R103). -/
def leaveSet (s : State) : State :=
  if s.table.state = .set then judgeOverdwell (modHeat (fun h => { h with cells := [], steam := false }) s) else s

/-- The effect of an accepted WRITE_LINE_PARAM (R2, R1). -/
def storeParams (pairs : List (Word × Word)) (s : State) : State :=
  settle (modTable (fun t => { t with state := .edit, edit := storePairs pairs t.edit }) (leaveSet s))

/-- WRITE_LINE_PARAM (R2). -/
def reqWriteLineParam (args : List Word) (s : State) : State × Answer :=
  if args.isEmpty ∨ args.length % 2 = 1 then (s, .malformed)
  else if s.mode.mode ≠ .halt then (s, .refused .wrongMode 0)
  else if lineEmpty s = false then (s, .refused .lineNotEmpty 0)
  else
    match badPair (wordPairs args) 0 with
    | some (r, i) => (s, .refused r i)
    | none => (storeParams (wordPairs args) s, .done [])

/-- READ_LINE_PARAM's first answer word (R4, R206). -/
def tableWord (t : LineTable) : Word := word (tableCode t.state + 256 * t.applyDetail.getD 0)

/-- READ_LINE_PARAM (R4). -/
def reqReadLineParam (args : List Word) (s : State) : State × Answer :=
  match args.map (·.toNat) with
  | [image, first, count] =>
    if 1 < image ∨ count < 1 ∨ 15 < count ∨ first < 1 ∨ 50 < first ∨ 50 < first + count - 1 then
      (s, .refused .noSuchParam 0)
    else
      let values := if image = 0 then s.table.edit else s.table.applied
      (s, .done (tableWord s.table :: ((values.drop (first - 1)).take count).map word))
  | _ => (s, .malformed)

/-! ### Apply (R5, R6) -/

/-- Check 2: the zones are ascending with at least two cells each (R5). -/
def zonesAscending (image : List Nat) : Bool :=
  let n := paramOf image Par.zoneCount
  ((List.range (n - 1)).all fun j => decide (zoneFirst image (j + 1) + 2 ≤ zoneFirst image (j + 2)))
    && decide (zoneFirst image n + 2 ≤ paramOf image Par.cellCount)

/-- The conditions of the eight cross-checks in order (R5). BOX_LEN of check 3 is the edit image's, as the whole check
is (DESIGN CHOICE, unsafe, notes/assumptions/37.md). -/
def crossChecks (image : List Nat) : List Bool :=
  let p := paramOf image
  let box := p Par.cellCount * p Par.cellLen
  [decide (box ≤ 2000000), zonesAscending image, decide (p Par.boxIn + box + 2 * p Par.cellLen ≤ p Par.lCut),
   decide (p Par.lCut ≤ 124 * p Par.cellLen),
   decide (p Par.coreDiam < p Par.critDiam ∧ p Par.critDiam < p Par.changeDiam),
   decide (2 * p Par.windowMargin + p Par.spliceLen ≤ p Par.windowLen), decide (p Par.spliceSpeed ≤ p Par.lineMax),
   decide (p Par.crawl ≤ p Par.lineMax)]

/-- The number of the first cross-check that fails (R5). -/
def failedCheck (image : List Nat) : Option Nat := ((crossChecks image).findIdx? fun b => !b).map (· + 1)

/-- A trip latch whose input's mode the apply changes is cleared, and the condition judged (R6, R179). -/
def applyTrip (old : List Nat) (x : TripInput) (s : State) : State :=
  if tripMode old x = tripMode s.table.applied x then s else clearLatch x s

/-- The new applied image, and the state SET (R6). -/
def tableApplied (t : LineTable) : LineTable := { state := .set, edit := t.edit, applied := t.edit, applyDetail := none }

/-- A successful APPLY_LINE (R6). ESTOP is judged before GUARD (DESIGN CHOICE, unsafe, notes/assumptions/40.md). -/
def applyTable (s : State) : State :=
  let s1 := modTable tableApplied s
  let s2 := judgeZoneOver (judgeOverdwell (buildCells s1))
  let s3 := { s2 with ring := { s2.ring with budget := s2.par Par.ringErrLimit, window := 0 } }
  let s4 := applyTrip s.table.applied .guard (applyTrip s.table.applied .estop s3)
  let s5 := judgeWebReverse s4
  let s6 := { s5 with plan := { s5.plan with originMark := s5.pBlade } }
  settle (judgeWebEnd (rederive .b (rederive .a s6)))

/-- APPLY_LINE (R5). -/
def reqApplyLine (args : List Word) (s : State) : State × Answer :=
  match args with
  | [] =>
    if s.table.state = .set then (s, .done [])
    else if s.mode.mode ≠ .halt then (s, .refused .wrongMode 0)
    else if lineEmpty s = false then (s, .refused .lineNotEmpty 0)
    else
      match failedCheck s.table.edit with
      | some n => (modTable (fun t => { t with applyDetail := some n }) s, .refused .crossCheck n)
      | none => (applyTable s, .done [])
  | _ => (s, .malformed)

end Sys2Proof.Machine
end

