-- ==== Sys2Proof/Machine/LineModes.lean ====
section
/-! DEFINITION. SET_MODE with its transitions and entry checks (R155 to R159), LINE_RESET (R167, R168) and
ABORT_PANEL (R56). -/
namespace Sys2Proof.Machine

/-- The mode a SET_MODE word asks for; HALTING and unknown values are none (R155, R206). -/
def modeOfWord (n : Nat) : Option Mode :=
  match n with
  | 0 => some .halt
  | 2 => some .thread
  | 3 => some .warmup
  | 4 => some .run
  | 5 => some .hold
  | 6 => some .drain
  | _ => none

/-- The transitions that SET_MODE may ask for (R156). -/
def transitionAllowed (before after : Mode) : Bool :=
  match before, after with
  | .halt, .thread => true
  | .halt, .warmup => true
  | .thread, .halt => true
  | .thread, .warmup => true
  | .warmup, .halt => true
  | .warmup, .thread => true
  | .run, .hold => true
  | .run, .drain => true
  | .run, .halt => true
  | .hold, .run => true
  | .hold, .drain => true
  | .hold, .halt => true
  | .drain, .run => true
  | .drain, .hold => true
  | .drain, .halt => true
  | _, _ => false

/-- A mode that an inhibit refuses (R158). -/
def inhibitable (m : Mode) : Bool := m == .thread || m == .warmup || m == .run

/-- A mode whose request is judged by the entry checks (R159). -/
def checkedMode (m : Mode) : Bool := m == .thread || m == .warmup

/-- The sample signals the entry checks require with this ACTIVE stand (R159). -/
def requiredSamples (s : State) (x : Stand) : List Nat :=
  [Sg.feedPos, Sg.convPos, Sg.bladeState] ++ s.zoneList.map (Sg.zoneTempBase + ·)
    ++ [Sg.boxPress, diamSignal x, speedSignal x]

/-- The command signals the entry checks require with this ACTIVE stand (R159). -/
def requiredCommands (s : State) (x : Stand) : List Nat :=
  [Sg.bladeCmd, Sg.feedSpeed, Sg.convSpeed] ++ s.zoneList.map (Sg.zoneSetBase + ·)
    ++ [Sg.vent, (match x with | .a => Sg.standACmd | .b => Sg.standBCmd), Sg.cutterCmd]

/-- The detail of the first entry check from 803 on that fails with this ACTIVE stand (R159). -/
def failedSignalCheck (m : Mode) (x : Stand) (s : State) : Option Nat :=
  if (requiredSamples s x ++ requiredCommands s x).any (fun i => (s.entry i).slot.isNone) then some 803
  else if s.sig.entries.any (fun g => g.slot.isSome && g.kindOpen) then some 804
  else if (requiredSamples s x).any (fun i => (s.entry i).state != .fresh) then some 805
  else if m = .warmup ∧ warmClass s = none then some 806
  else none

/-- The detail of the first entry check that fails (R159). -/
def failedEntryCheck (m : Mode) (s : State) : Option Nat :=
  if s.table.state ≠ .set then some 801
  else
    match s.activeStand with
    | none => some 802
    | some x => if s.present x then failedSignalCheck m x s else some 802

/-- The transition of an accepted SET_MODE (R156, R157). -/
def makeTransition (m : Mode) (s : State) : State :=
  match m with
  | .halt => enterHalting .request s
  | .halting => s
  | .thread => enterThread s
  | .warmup => enterWarmup s
  | .run =>
    if s.mode.mode = .hold ∧ warmClass s ≠ none ∧ zonesInBand s = false then enterWarmup s else enterRun s
  | .hold => enterHold s
  | .drain => enterDrain s

/-- The answer that gives the mode the line is in (R155, R206). -/
def modeAnswer (s : State) : Answer := .done [word (modeCode s.mode.mode)]

/-- Rows 5 and 6 of R155; the answer follows the reactions of the event (DEDUCED, notes/assumptions/27.md). -/
def setModeChecked (m : Mode) (s : State) : State × Answer :=
  match (if checkedMode m then failedEntryCheck m s else none) with
  | some d => (s, .refused .checkFailed d)
  | none =>
    let t := settle (makeTransition m s)
    (t, modeAnswer t)

/-- SET_MODE (R155). -/
def reqSetMode (args : List Word) (s : State) : State × Answer :=
  match args with
  | [n] =>
    match modeOfWord n.toNat with
    | none => (s, .malformed)
    | some m =>
      if s.mode.mode = .halting then (s, .refused .busy 0)
      else if m = s.mode.mode then (s, modeAnswer s)
      else if transitionAllowed s.mode.mode m = false then (s, .refused .notAllowed 0)
      else if inhibitable m = true ∧ s.inhibited = true then (s, .refused .inhibited 0)
      else setModeChecked m s
  | _ => (s, .malformed)

/-! ### LINE_RESET (R167) -/

/-- POS after LINE_RESET: the time base kept (R17). -/
def posLineReset (p : Pos) : Pos := { p with flat := Encoder.reset, conv := Encoder.reset }

/-- The conditions LINE_RESET makes inactive by clearing what they follow (R17, R61, R87, R111, R152). -/
def clearedConds : List Cond :=
  [.webReverse, .bladeOverrun, .planEmpty, .overdwell, .pressureLow, .webEnd, .spliceFailed]

/-- Every block's run state cleared (R167). -/
def clearRunState (s : State) : State :=
  { s with
    pos := posLineReset s.pos
    pat := s.pat.map slotLineReset
    fold := foldLineReset s.fold
    plan := planLineReset s.plan
    heat := heatLineReset s.heat
    roll := rollLineReset s.roll
    react := { s.react with entries := s.react.entries.map reactionLineReset } }

/-- The effect of an accepted LINE_RESET (R167, R190). -/
def lineReset (s : State) : State :=
  let s1 := clearedConds.foldl (fun t c => setCond c false t) (clearRunState s)
  let s2 := judgeBladeFault (endRole .b (endRole .a s1))
  settle (clearLatch .guard (clearLatch .estop s2))

/-- LINE_RESET (R167). -/
def reqLineReset (args : List Word) (s : State) : State × Answer :=
  match args with
  | [] => if s.mode.mode ≠ .halt then (s, .refused .wrongMode 0) else (lineReset s, .done [])
  | _ => (s, .malformed)

/-! ### ABORT_PANEL (R56) -/

/-- The effect of an accepted ABORT_PANEL: the walk aborted, and the hand-over test, since the segment at the
blade is then done (R57, R71). -/
def abortPanel (s : State) : State := settle (handOver (abortWalk .aborted s))

/-- ABORT_PANEL (R56). -/
def reqAbortPanel (args : List Word) (s : State) : State × Answer :=
  match args with
  | [o] =>
    if o.toNat = 0 ∨ 65535 < o.toNat then (s, .malformed)
    else
      match s.bladePanel with
      | none => (s, .refused .notAtBlade 0)
      | some id =>
        if id.order ≠ o.toNat then (s, .refused .notAtBlade 0)
        else if s.walking then (abortPanel s, .done [])
        else (s, .refused .foldsDone 0)
  | _ => (s, .malformed)

end Sys2Proof.Machine
end

