-- ==== Sys2Proof/Machine/Records.lean ====
section
/-! DEFINITION. The line master's collecting requests: READ_COMPLETIONS (R86), READ_FAULTS and CLEAR_FAULTS
(R214, R215), with their word layouts (R206). -/
namespace Sys2Proof.Machine

/-! ### Completion log (R86) -/

/-- A completion entry's two words of the SHORT form (R206). -/
def shortWords (c : Completion) : List Word :=
  [word (c.id.order * 65536 + c.id.cls * 4096 + c.id.slot * 128 + c.id.remake * 32 + outcomeCode c.first * 4
      + dispositionCode c.disposition),
   word (c.folds * 1048576 + min c.maxLate 1048575)]

/-- A completion entry in a form, FULL for true (R86, R206). -/
def completionWords (full : Bool) (c : Completion) : List Word :=
  shortWords c ++ (if full then [word c.minDwell, word c.maxDwell, word c.exposure] else [])

/-- READ_COMPLETIONS (R86). -/
def reqReadCompletions (args : List Word) (s : State) : State × Answer :=
  match args.map (·.toNat) with
  | [count, form] =>
    if count < 1 ∨ 7 < count ∨ 1 < form then (s, .malformed)
    else
      let n := min (min count s.plan.log.length) (if form = 1 then 3 else 7)
      let left := s.plan.log.length - n
      ({ s with plan := { s.plan with log := s.plan.log.drop n, discard := false } },
        .done (word (n + 256 * left + 65536 * bit s.plan.discard)
          :: (s.plan.log.take n).flatMap (completionWords (form == 1))))
  | _ => (s, .malformed)

/-! ### Fault record (R214, R215) -/

/-- The kind and value of a fault's subject (R206). The value with kind none, which the spec does not give, is 0:
DESIGN CHOICE, unsafe, notes/assumptions/47.md. -/
def subjectCode : Subject → Nat × Nat
  | .none => (0, 0)
  | .order id => (1, id)
  | .signal n => (2, n)
  | .stand x => (3, standCode x)

/-- A history entry's four words (R206). -/
def historyWords (h : HistEntry) : List Word :=
  [word (h.detail + 65536 * h.repeats + 16777216 * (subjectCode h.subject).1),
   word (65536 * h.cycle.toNat + (subjectCode h.subject).2)] ++ wideWords h.pBlade

/-- The eight latched flags in their answer bits (R214). -/
def flagsWord (flags : BitVec 8) : Nat := 65536 * flags.toNat

/-- READ_FAULTS (R214). -/
def reqReadFaults (args : List Word) (s : State) : State × Answer :=
  match args.map (·.toNat) with
  | [first, count] =>
    if 15 < first ∨ count < 1 ∨ 3 < count then (s, .malformed)
    else
      let es := (s.fault.history.drop first).take count
      (s, .done (word (s.fault.history.length + 256 * es.length + flagsWord s.fault.flags)
        :: es.flatMap historyWords))
  | _ => (s, .malformed)

/-- The effect of CLEAR_FAULTS: every flag cleared, FAULT_LATCHED inactive (R215). -/
def clearFlags (s : State) : State :=
  settle (setCond .faultLatched false { s with fault := { s.fault with flags := 0 } })

/-- CLEAR_FAULTS (R215). -/
def reqClearFaults (args : List Word) (s : State) : State × Answer :=
  match args with
  | [] => (clearFlags s, .done [word (flagsWord s.fault.flags)])
  | _ => (s, .malformed)

end Sys2Proof.Machine
end

