-- ==== Sys2Proof/Machine/Commands.lean ====
section
/-! DEFINITION. The command values each owner holds for the command slots (R196, R204), the status word (R197)
and how RING writes them into a cycle frame (R196). -/
namespace Sys2Proof.Machine

/-- BLADE_CMD (R46, R204). -/
def bladeCmdWord (s : State) : Word :=
  word (s.fold.held.toNat + 256 * dirCode s.fold.heldDir + 512 * bit s.fold.heldLast + 4096 * s.fold.heldDepth
    + 2147483648 * bit s.bladeStroke)

/-- SPLICE_CMD (R134, R204). -/
def spliceCmdWord (s : State) : Word :=
  word (s.roll.pasteSerial.toNat + 256 * s.roll.cutSerial.toNat + 65536 * bit s.roll.arm
    + 131072 * standCode s.roll.armStand)

/-- STAND_x_CMD of a speed and a brake (R125, R130, R204). -/
def standCmdWord (speed : Nat) (brake : Bool) : Word := word (speed + 2147483648 * bit brake)

/-- ZONE_SET_z (R105, R204). -/
def zoneSetWord (s : State) (z : Nat) : Word :=
  word ((zoneCommand s z).1 + 2147483648 * bit (zoneCommand s z).2)

/-- CUTTER_CMD (R83, R204). -/
def cutterCmdWord (s : State) : Word := word (s.plan.cutSerial.toNat + 256 * bit s.plan.divert)

/-- The number of reactions not IDLE (R182, R197). -/
def reactionsInForce (s : State) : Nat := (s.react.entries.filter inForce).length

/-- LINE_STATUS, with the reset notice as this frame writes it (R197). -/
def statusWord (notice : Bool) (s : State) : Word :=
  word (modeCode s.mode.mode + 8 * seqCode s.roll.state + 64 * limitCode s.gov.cause + 512 * reactionsInForce s
    + 8192 * bit s.purgeActive + 16384 * bit (s.cond .faultLatched) + 32768 * s.plan.log.length
    + 2097152 * bit s.plan.discard + 4194304 * bit notice + 8388608 * bit (s.heat.phase == .warning)
    + 16777216 * s.plan.segs.length)

/-- The command value of a command signal (R196). -/
def commandValue (notice : Bool) (s : State) (i : Nat) : Word :=
  if i = Sg.bladeCmd then bladeCmdWord s
  else if i = Sg.feedSpeed then word s.gov.feed
  else if i = Sg.convSpeed then word s.gov.conv
  else if i = Sg.vent then flagWord (ventOpen s)
  else if i = Sg.standACmd then standCmdWord s.gov.standA s.roll.standA.brake
  else if i = Sg.standBCmd then standCmdWord s.gov.standB s.roll.standB.brake
  else if i = Sg.spliceCmd then spliceCmdWord s
  else if i = Sg.cutterCmd then cutterCmdWord s
  else if i = Sg.lineStatus then statusWord notice s
  else zoneSetWord s (i - Sg.zoneSetBase)

/-- May the slot of a command signal be written (R196)? -/
def writable (i k : Nat) (g : SigEntry) (x : Slot) : Bool := !slotDamaged k x && slotRight i g x

/-- The held toggle of command signal i (R196). -/
def heldToggle (toggles : BitVec 13) (i : Nat) : Bool := toggles.getLsbD (i - 14)

/-- Command signal i written into a frame, its held toggle flipped; a slot that may not be written stays as it
arrived (R196). -/
def writeCommand (notice : Bool) (s : State) (i : Nat) (acc : CycleFrame × BitVec 13) : CycleFrame × BitVec 13 :=
  match (s.entry i).slot with
  | none => acc
  | some k =>
    match acc.1.slots[k]? with
    | none => acc
    | some x =>
      if writable i k (s.entry i) x then
        ({ acc.1 with slots := acc.1.slots.set k (slotWritten x (commandValue notice s i) (!heldToggle acc.2 i)) },
          acc.2 ^^^ (1#13 <<< (i - 14)))
      else acc

/-- RING writes the command and status slots of a cycle frame, forwards it, and counts the reset notice down
(R196, R197). -/
def forwardCycle (f : CycleFrame) (s : State) : State :=
  let notice := decide (0 < s.ring.notice)
  let w := (List.range 13).foldl (fun acc j => writeCommand notice s (14 + j) acc) (f, s.ring.toggles)
  { s with
    ring := { s.ring with toggles := w.2, notice := s.ring.notice - 1, noticeShown := notice, out := .cycle w.1 } }

end Sys2Proof.Machine
end

