-- ==== Sys2Proof/Machine/Views.lean ====
section
/-! DEFINITION. READ_VIEW (R202): the fixed images and records of R207 and R208. -/
namespace Sys2Proof.Machine

/-- Flags packed from bit 0 up. -/
def packFlags (fs : List Bool) : Word := word (fs.foldr (fun b n => bit b + 2 * n) 0)

/-! ### POSITIONS -/

/-- POSITIONS (R18, R207). -/
def viewPositions (s : State) : List Word :=
  wideWords s.pBlade ++ [word (s.pos.flat.fine % 65536)] ++ wideWords s.setPos ++ [word (s.pos.conv.fine % 65536)]
    ++ wideWords s.pUnwind ++ wideWords s.pos.flat.excess ++ wideWords s.pos.conv.excess
    ++ [s.pos.flat.baseline, word s.pos.flat.since, s.pos.conv.baseline, word s.pos.conv.since,
        packFlags [s.pos.flat.valid, s.pos.conv.valid, s.pos.flat.jumpOpen, s.pos.conv.jumpOpen, s.cond .webReverse,
                   s.pos.flat.saturated, s.pos.conv.saturated, s.pos.lastCycle.isNone],
        word (s.pos.lastCycle.getD 0).toNat, word s.pos.elapsed]

/-! ### PLAN -/

/-- Words 0 to 4: the segment at the blade (R207). -/
def bladeSegWords (s : State) : List Word :=
  match s.fold.seg with
  | some g => [word g.serial.toNat, word (kindCode g.kind)] ++ wideWords g.start ++ [lengthWord g.len]
  | none => List.replicate 5 noneWord

/-- Words 5 to 8: what the PANEL at the blade names, and its walk status (R207). -/
def bladePanelWords (s : State) : List Word :=
  match s.bladePanel, s.walk with
  | some id, some w => [word id.order, word id.remake, word id.slot, word (walkCode w.status)]
  | _, _ => List.replicate 4 noneWord

/-- Words 9 to 13: the pending fold, while WALKING (R207). -/
def pendingWords (s : State) : List Word :=
  match (if s.walking then s.walk.bind (·.pending) else none) with
  | some f => [word f.k] ++ wideWords f.fire ++ [word (dirCode f.dir), word f.depth]
  | none => List.replicate 5 noneWord

/-- Words 14 to 17: the walk's counts and done offsets (R207). -/
def walkWords (s : State) : List Word :=
  match s.walk with
  | some w => [word w.folds, lengthWord w.maxLate, word w.flatDone, word w.outDone]
  | none => List.replicate 4 noneWord

/-- PLAN's fixed image (R62, R88, R207). -/
def viewPlan (s : State) : List Word :=
  bladeSegWords s ++ bladePanelWords s ++ pendingWords s ++ walkWords s
    ++ [word s.fold.held.toNat, optWord (s.fold.stroke.map (·.age)), optWord (s.fold.stroke.map (·.panel.toNat)),
        flagWord s.bladeStroke, optWord (s.fold.status.map bladeCode), word s.fold.done.toNat,
        packFlags [s.fold.synced, s.fold.stroke.isSome, s.cond .bladeOverrun, s.cond .bladeFault, s.cond .planEmpty],
        word s.plan.segs.length]
    ++ wideWords s.planOrigin ++ wideWords s.planEnd ++ [optWord (s.window.map (·.serial.toNat))]

/-- The order id, serial word of a record: the order id is 0 unless the record is a PANEL, which R207 says of a plan
record (of a set-map record: DESIGN CHOICE, unsafe, notes/assumptions/42.md). -/
def idWord (kind : SegKind) (serial : SegSerial) : Word :=
  word (65536 * ((panelOf kind).map (·.order)).getD 0 + serial.toNat)

/-- The remake, slot and class bits of a record's second word, 0 in a record that is no PANEL (R207; DESIGN CHOICE,
unsafe, notes/assumptions/42.md). -/
def nameBits (kind : SegKind) : Nat :=
  match panelOf kind with
  | some id => 16 * id.remake + 256 * id.slot + 65536 * id.cls
  | none => 0

/-- A plan record's five words (R207). -/
def planRecordWords (g : Seg) : List Word :=
  [idWord g.kind g.serial, word (kindCode g.kind + 4 * bit g.anchored + nameBits g.kind)]
    ++ wideWords g.start ++ [lengthWord g.len]

/-! ### SETMAP -/

/-- SETMAP's fixed image (R88, R207). -/
def viewSetMap (s : State) : List Word :=
  [word s.plan.setMap.length, word s.plan.cutSerial.toNat, flagWord s.plan.divert]

/-- A set-map record's thirteen words (R207). A record that is no PANEL shows what it entered the set map with: no
reject reason, no cells, no folds, max lateness and max exposure 0, min and max age none (DESIGN CHOICE, unsafe,
notes/assumptions/42.md). -/
def setRecordWords (r : SetRec) : List Word :=
  [idWord r.kind r.serial,
   word (kindCode r.kind + 4 * bit r.splice + 8 * bit r.verdict.isSome + 64 * dispositionCode r.disposition
     + nameBits r.kind + 16777216 * outcomeCode r.first),
   word (r.rejects.toNat + 256 * r.cells + 65536 * r.folds), lengthWord r.maxLate]
    ++ wideWords r.start ++ [lengthWord r.len] ++ wideWords r.head
    ++ [lengthWord r.outLen, optWord r.minAge, optWord r.maxAge, word r.maxExposure]

/-! ### CELLS -/

/-- The reading of zone z, none for a zone that does not exist (R93, R112). -/
def zoneReadingWord (s : State) (z : Nat) : Word :=
  optWord (if z ≤ s.par Par.zoneCount then s.zone z else none)

/-- The target class of zone z, none for a zone that does not exist (R93, R112). -/
def zoneTargetWord (s : State) (z : Nat) : Word :=
  optWord (if z ≤ s.par Par.zoneCount then targetClass s z else none)

/-- CELLS' fixed image (R112, R208). -/
def viewCells (s : State) : List Word :=
  [word s.heat.cells.length, word s.heat.acc] ++ [1, 2, 3, 4].map (zoneReadingWord s)
    ++ [1, 2, 3, 4].map (zoneTargetWord s) ++ [1, 2, 3, 4].map (zoneSetWord s)
    ++ [flagWord (ventOpen s),
        packFlags [s.heat.steam, s.cond .overdwell, s.cond .pressureLow, s.cond .zoneOver],
        word (steamCode s.steamRestriction), word (phaseCode s.heat.phase), word s.heat.standbyTimer,
        optWord (warmClass s), word s.heat.stable, word s.heat.warm]

/-- A cell's three words (R208). -/
def cellWords (c : Cell) : List Word := [optWord (c.owner.map (·.toNat)), word c.age, word c.exposure]

/-! ### STANDS -/

/-- A stand's state word (R208). -/
def standStateWord (s : State) (x : Stand) : Word :=
  let r := s.stand x
  word (sigCode (s.entry (diamSignal x)).state + 4 * sigCode (s.entry (speedSignal x)).state
    + 16 * bit (s.present x) + 256 * r.step + 1024 * r.steps)

/-- A stand's five words (R208). -/
def standWords (s : State) (x : Stand) (speed : Nat) : List Word :=
  let r := s.stand x
  [optWord (r.role.map roleCode), optWord r.diam, optWord r.speed, standStateWord s x, standCmdWord speed r.brake]

/-- The window's present flat start, none unless RESERVED or COMMITTED (R153, R208). -/
def windowStart (s : State) : Option Nat :=
  if s.roll.winStatus = .reserved ∨ s.roll.winStatus = .committed then s.window.map (·.start) else none

/-- STANDS' fixed image (R153, R208; codes: DEDUCED, notes/assumptions/22.md). -/
def viewStands (s : State) : List Word :=
  let r := s.roll
  standWords s .a s.gov.standA ++ standWords s .b s.gov.standB
    ++ [word (seqCode r.state), optWord (r.incoming.map standCode),
        packFlags [r.forced, r.matched, r.hold, r.failed, r.noStandby, r.synced, r.pasteFlight, r.cutFlight,
                   s.cond .webEnd, s.cond .spliceFailed],
        word (winCode r.winStatus), optWord (r.winSerial.map (·.toNat))]
    ++ optWideWords (windowStart s) ++ optWideWords r.pastePos
    ++ [word r.matchCount, word r.matchTimer, word r.confirmAge, word r.settleCount, word r.missCount,
        spliceCmdWord s, word (r.lastPaste.toNat + 256 * r.lastCut.toNat)]

/-! ### GOVERNOR -/

/-- GOVERNOR's fixed image (R126, R208). -/
def viewGovernor (s : State) : List Word :=
  let g := s.gov
  [word g.request, optWord g.limits.request, optWord g.limits.dwell, optWord g.limits.stroke, optWord g.limits.splice,
   optWord g.limits.mode, optWord g.limits.reaction, word g.target, word (limitCode g.cause), word g.conv,
   word g.ratio, word g.feed, flagWord g.saturated, word g.standA, word g.standB, word g.governed,
   optWord (g.dwellSerial.map (·.toNat)), optWord (g.strokeSerial.map (·.toNat))]

/-! ### CONDITIONS -/

/-- The more severe of two mode actions, NONE < HOLD < HALT (R188). -/
def actionMax (x y : ModeAction) : ModeAction := if actionCode x < actionCode y then y else x

/-- The mode action part of the restriction (R188). -/
def modeRestriction (s : State) : ModeAction :=
  s.react.entries.foldl (fun a e => if e.state = .applied then actionMax a e.modeAction else a) .none

/-- A reaction's word (R208). -/
def reactionWord (e : ReactEntry) : Word := word (reactCode e.state + 65536 * e.remaining)

/-- The number of sample signals in a state (R208). -/
def signalsIn (s : State) (st : SigState) : Nat := ((s.sig.entries.take 14).filter fun g => g.state == st).length

/-- CONDITIONS' fixed image (R191, R208). -/
def viewConditions (s : State) : List Word :=
  [word (modeCode s.mode.mode), word s.mode.step, word (causeCode s.mode.cause + 256 * causeIndex s.mode.cause),
   word s.react.marks.toNat]
    ++ s.react.entries.map reactionWord
    ++ [optWord s.purgeHolder,
        word (actionCode (modeRestriction s) + 16 * steamCode s.steamRestriction + 256 * bit s.inhibited
          + 512 * bit s.purgeActive),
        optWord s.speedCap, word s.ring.budget, word s.ring.window,
        packFlags [tripMode s.table.applied .estop == 1, s.sig.estop.asserted, s.sig.estop.latch, false,
                   tripMode s.table.applied .guard == 1, s.sig.guard.asserted, s.sig.guard.latch],
        word (signalsIn s .awaiting + 256 * signalsIn s .fresh + 65536 * signalsIn s .lost)]

/-! ### The request -/

/-- A view's fixed image (R202). -/
def viewImage (view : Nat) (s : State) : List Word :=
  match view with
  | 0 => viewPositions s
  | 1 => viewPlan s
  | 2 => viewSetMap s
  | 3 => viewCells s
  | 4 => viewStands s
  | 5 => viewGovernor s
  | _ => viewConditions s

/-- A view's records, with how many fit in a frame; none for a view without records (R202). -/
def viewRecords (view : Nat) (s : State) : Option (Nat × List (List Word)) :=
  match view with
  | 1 => some (3, s.plan.segs.map planRecordWords)
  | 2 => some (1, s.plan.setMap.map setRecordWords)
  | 3 => some (5, s.heat.cells.map cellWords)
  | _ => none

/-- READ_VIEW (R202). -/
def reqReadView (args : List Word) (s : State) : State × Answer :=
  match args.map (·.toNat) with
  | [view, part, first] =>
    if 6 < view ∨ 1 < part then (s, .malformed)
    else if part = 0 then (s, .done (((viewImage view s).drop first).take 16))
    else
      match viewRecords view s with
      | none => (s, .malformed)
      | some (fit, rs) => (s, .done (word rs.length :: ((rs.drop first).take fit).flatten))
  | _ => (s, .malformed)

end Sys2Proof.Machine
end

