-- ==== Sys2Proof/Machine/RingPort.lean ====
section
/-! DEFINITION. The Ring Port: service frames and their answers (R199, R201), frames that are not used (R192,
R193), the cycle timeout (R198) and Full reset with the ring bypass (R209). -/
namespace Sys2Proof.Machine

/-- What RING OUT sends. -/
def sendOut (o : RingOut) (s : State) : State := { s with ring := { s.ring with out := o } }

/-- The part takes no frame while RING_BYPASS is asserted (R209; notes/assumptions/6.md). -/
def taking (f : State → State) (s : State) : State := if s.ring.bypass then s else f s

/-- A service frame addressed to the part leaves with this answer in it (R199). -/
def sendAnswer (code count : Byte) (r : Request) (a : Answer) (s : State) : State :=
  sendOut (.service (answeredFrame s.ring.address code count r a)) s

/-- A request of more than 16 argument words is MALFORMED before its owner sees it (R199). -/
def judged (f : List Word → State → State × Answer) (args : List Word) (s : State) : State × Answer :=
  if 16 < args.length then (s, .malformed) else f args s

/-- A request handed to its owner, and its answer sent (R199). -/
def serve (code : Nat) (f : List Word → State → State × Answer) (r : Request) (s : State) : State :=
  taking
    (fun s =>
      let x := judged f r.args s
      sendAnswer (BitVec.ofNat 8 code) (BitVec.ofNat 8 r.args.length) r x.2 x.1) s

/-- IDENTIFY (R201). -/
def reqIdentify (args : List Word) (s : State) : State × Answer :=
  match args with
  | [] =>
    (s, .done [word Config.vendorCode, word Config.partNumber, Config.siliconRevision,
      word s.ring.address.toNat, word (tableCode s.table.state)])
  | _ => (s, .malformed)

/-- A FRAME_CHECK error (R193, R178). -/
def frameError (s : State) : State := settle (lowerBudget 1 s)

/-- The cycle timeout expires (R198). MODE's entry into HALTING comes before the reactions that RING_LOST and
FAULT_LATCHED trigger (DESIGN CHOICE, unsafe, notes/assumptions/45.md). -/
def timeoutExpires (s : State) : State :=
  let s1 := { s with ring := { s.ring with timer := none, expired := true } }
  settle (enterHalting .ringLost (setCond .ringLost true (recordFault 721 .none s1)))

/-- The trip inputs as found when Full reset ends: an input found asserted counts as an edge (R179). ESTOP is taken
before GUARD (DESIGN CHOICE, unsafe, notes/assumptions/40.md). -/
def tripsAfterReset (estop guard : Bool) (s : State) : State :=
  settle (tripChange .guard guard (tripChange .estop estop s))

/-- Full reset (R209): every block at its Full reset values, the bypass still asserted; the queue is the
model's own and is kept (notes/assumptions/2.md, 26.md). -/
def fullReset (address : BitVec 7) (estop guard : Bool) (s : State) : State :=
  tripsAfterReset estop guard (State.inReset address false false s.pending)

/-- The cycle timeout starts at 4 × CYCLE_US µs (R198). -/
def startTimer (s : State) : State := { s with ring := { s.ring with timer := some (4 * s.par Par.cycleUs) } }

/-- RING_BYPASS is released and the cycle timeout starts (R209, R198). -/
def releaseBypass (s : State) : State :=
  if s.ring.bypass then startTimer { s with ring := { s.ring with bypass := false } } else s

end Sys2Proof.Machine
end

