-- ==== Sys2Proof/Machine/Cycle.lean ====
section
/-! DEFINITION. The cycle frame (R194): used or not, its slots judged, the blocks' work in the order of
notes/assumptions/4.md, and its command slots written. -/
namespace Sys2Proof.Machine

/-! ### The parts of a used frame -/

/-- RING and POS take a used frame: time base, timer, RING_LOST, sequence episode (R8, R194, R198). -/
def frameTaken (cycle : BitVec 16) (e : Nat) (s : State) : State :=
  let s1 := startTimer (useCycle cycle e s)
  settle (setCond .ringLost false { s1 with ring := { s1.ring with expired := false, seqOpen := false } })

/-- The frame's slot errors lower the budget, and its cycles count in the error window (R195, R178). REACT judges
them with the frame's samples, which ROLL takes before any of its rules acts on the frame (R128). -/
def frameErrors (f : CycleFrame) (e : Nat) (s : State) : State := windowCount e (lowerBudget (slotErrors f s) s)

/-- HEAT's judgement of warm-up, and the mode it brings about (R109, R110, R160). That MODE's own entry at a timeout,
and with it the halt cause WARMUP_TIMEOUT, comes before the entry of a HALT reaction which fault 341 triggers in the
same event is the model's choice: DESIGN CHOICE, unsafe, notes/assumptions/45.md. -/
def warmStep (e : Nat) (s : State) : State :=
  if s.mode.mode = .warmup then
    let s1 := countWarm e s
    match warmResult s1 with
    | .waiting => s1
    | .finished => enterRun s1
    | .timedOut => enterHalting .warmupTimeout (recordFault 341 .none s1)
  else s

/-- The issue test; a walk that ends makes the segment at the blade done (R47, R55, R71). -/
def issueStep (carried : Serial8) (s : State) : State :=
  let s1 := issueTest carried s
  if s.walking && s1.bladeDone then handOver s1 else s1

/-- A stroke that was in flight when the frame arrived and is still in flight ages (R52; notes/assumptions/8.md). -/
def strokeStep (before : Option Stroke) (s : State) : State :=
  if before.isSome && s.fold.stroke == before then ageStroke s else s

/-- The DRAIN end (R161). -/
def drainStep (s : State) : State :=
  if s.mode.mode = .drain ∧ s.bladePanel = none ∧ (s.plan.setMap.any fun r => isPanel r.kind) = false then
    enterHalting .drainEnd s
  else s

/-- ROLL's step 2: STOPPING steps, confirmation ages and the settle count of what the frame found already under
way (R133, R145 to R148; notes/assumptions/9.md). -/
def rollAdvance (before : Roll) (e : Nat) (s : State) : State :=
  let s1 := if before.standA.role = some .stopping then stopStep .a s else s
  let s2 := if before.standB.role = some .stopping then stopStep .b s1 else s1
  if s2.roll.state ≠ before.state then s2
  else
    match before.state with
    | .paste => agePaste s2
    | .cut => ageCut s2
    | .settle => settleCountStep e s2
    | _ => s2

/-- The step of HALTING that a frame takes when it found the line in HALTING (R164). -/
def haltStep (before : Mode) (s : State) : State := if before = .halting then haltingStep s else s

/-- The blocks' work in a used frame, once its samples are judged: `old` is the state the frame found
(R114, R133; order: notes/assumptions/4.md). -/
def blocksAct (f : CycleFrame) (e : Nat) (old s : State) : State :=
  let s1 := settle (warmStep e s)
  let s2 := settle (countStandby e s1)
  let s3 := if old.pBlade < s2.pBlade then settle (handOver s2) else s2
  let s4 := settle (issueStep old.fold.held s3)
  let s5 := settle (strokeStep old.fold.stroke s4)
  let s6 := settle (ageCells e s5)
  let s7 := settle (heatAdvance old.setPos (s6.setPos - old.setPos) s6)
  let s8 := settle (drainStep (cutTest s7))
  let s9 := settle (rollAdvance old.roll e s8)
  let s10 := settle (rollJudge e s9)
  let s11 := settle (haltStep old.mode.mode s10)
  settle (matchAndPaste (govern f.speed e s11))

/-- A used cycle frame (R194), up to the writing of its slots. -/
def useFrame (f : CycleFrame) (e : Nat) (s : State) : State :=
  let s1 := frameTaken f.cycle e s
  let s2 := settle (purgeCount e s1)
  let s3 := judgeSlots f (frameErrors f e s2)
  blocksAct f e s s3

/-- The first SEQUENCE error of an episode records fault 731 (R194). -/
def openSequence (s : State) : State :=
  if s.ring.seqOpen then s else recordFault 731 .none { s with ring := { s.ring with seqOpen := true } }

/-- A SEQUENCE error, in the order R194 tells it: the error lowers the budget, the first of an episode records
fault 731, and the frame's slot errors lower the budget (R194, R195, R178; the order of faults 711 and 731:
DEDUCED, notes/assumptions/43.md). -/
def refuseFrame (f : CycleFrame) (s : State) : State :=
  let s1 := openSequence (lowerBudget 1 s)
  settle (lowerBudget (slotErrors f s1) s1)

/-- A cycle frame that has passed its frame check (R194, R196; a frame not used: DEDUCED,
notes/assumptions/16.md; its command values are those after the reactions to its own errors: DESIGN CHOICE, unsafe,
notes/assumptions/44.md). -/
def takeCycle (f : CycleFrame) (s : State) : State :=
  let e := elapsedFor s f.cycle
  forwardCycle f (if frameUsed e then useFrame f e s else refuseFrame f s)

end Sys2Proof.Machine
end

