-- ==== Sys2Proof/Machine/Happenings.lean ====
section
/-! DEFINITION. The happenings inside a used cycle frame that the opcode table also lists as steps of their own.
As a command each is its one event at its owner, with what REACT makes of it; where its rule's condition does not
come about, nothing happens (DESIGN CHOICE, notes/assumptions/3.md). -/
namespace Sys2Proof.Machine

/-- A fresh BLADE_STATE whose done-serial equals the in-flight serial (R51). -/
def strokeCompletes (status : BladeStatus) (done : Serial8) (s : State) : State :=
  if s.fold.synced ∧ (s.fold.stroke.any fun x => x.serial == done) = true then settle (takeBladeState status done s)
  else s

/-- The age of the stroke in flight reaches STROKE_TIMEOUT (R52). -/
def strokeTimesOut (s : State) : State :=
  if s.fold.stroke.any (fun x => decide (s.par Par.strokeTimeout ≤ x.age + 1)) then settle (ageStroke s) else s

/-- A fresh SPLICE_STATE confirms the paste (R145). -/
def pasteConfirmed (paste cut : Serial8) (s : State) : State :=
  if s.roll.state = .paste ∧ s.roll.synced ∧ s.roll.pasteFlight ∧ paste = s.roll.pasteSerial then
    settle (takeSplice paste cut s)
  else s

/-- The confirmation age in PASTE reaches PASTE_TIMEOUT (R145). -/
def pasteTimesOut (s : State) : State :=
  if s.roll.state = .paste ∧ s.roll.pasteFlight ∧ s.par Par.pasteTimeout ≤ s.roll.confirmAge + 1 then settle (agePaste s)
  else s

/-- A fresh SPLICE_STATE confirms the cut (R146). -/
def cutConfirmed (paste cut : Serial8) (s : State) : State :=
  if s.roll.state = .cut ∧ s.roll.synced ∧ s.roll.cutFlight ∧ cut = s.roll.cutSerial then settle (takeSplice paste cut s)
  else s

/-- The confirmation age in CUT reaches CUT_TIMEOUT (R146). -/
def cutTimesOut (s : State) : State :=
  if s.roll.state = .cut ∧ s.roll.cutFlight ∧ s.par Par.cutTimeout ≤ s.roll.confirmAge + 1 then settle (ageCut s)
  else s

/-- The settle count reaches SETTLE_CYCLES (R147). -/
def settleEnds (e : Nat) (s : State) : State :=
  if s.roll.state = .settle ∧ s.par Par.settleCycles ≤ s.roll.settleCount + e then settle (settleCountStep e s) else s

/-- The match timer reaches MATCH_TIMEOUT (R142). -/
def matchTimesOut (e : Nat) (s : State) : State :=
  if s.roll.state = .prepare ∧ s.par Par.matchTimeout ≤ (growMatchTimer e s).roll.matchTimer then
    settle (judgeMatchTimeout (growMatchTimer e s))
  else s

/-- The remaining cycles of the entry in PURGE reach 0 (R187). -/
def purgeEnds (e : Nat) (s : State) : State :=
  match s.purgeHolder with
  | some h => if (s.reaction h).remaining ≤ e then settle (purgeCount e s) else s
  | none => s

/-- The stable count reaches WARM_STABLE (R109, R160). -/
def warmupFinishes (e : Nat) (s : State) : State :=
  if s.mode.mode = .warmup ∧ warmResult (countWarm e s) = .finished then settle (warmStep e s) else s

/-- The warm-up count reaches WARM_TIMEOUT without warm-up having finished (R110, R160). -/
def warmupTimesOut (e : Nat) (s : State) : State :=
  if s.mode.mode = .warmup ∧ warmResult (countWarm e s) = .timedOut then settle (warmStep e s) else s

/-- The standby timer brings the phase to this one (R107). -/
def phaseComes (p : StandbyPhase) (e : Nat) (s : State) : State :=
  let t := countStandby e s
  if t.heat.phase = p ∧ s.heat.phase ≠ p then settle t else s

/-- The stale counter of a mapped sample signal reaches 0 (R174). -/
def signalLost (i : Nat) (s : State) : State :=
  let g := s.entry i
  if isSample i = true ∧ g.slot.isSome ∧ g.state ≠ .lost ∧ g.stale ≤ 1 then
    settle (standsJudge none none s (judgeSignalConds (loseSignal i s)))
  else s

/-- The window count reaches RING_ERR_WINDOW (R178). -/
def errWindowEnds (e : Nat) (s : State) : State :=
  if s.par Par.ringErrWindow ≤ s.ring.window + e then settle (endWindow s) else s

/-- ROLL, in ARMED with its reservation PENDING, asks PLAN again (R74, R138). -/
def waitingWindow (s : State) : State :=
  if s.roll.state = .armed ∧ s.roll.winStatus = .pending then settle (judgeArmed s) else s

/-- The reset notice count has reached 0: the notice is written 0 (R197; notes/assumptions/24.md). -/
def noticeEnds (s : State) : State :=
  if s.ring.notice = 0 then { s with ring := { s.ring with noticeShown := false } } else s

end Sys2Proof.Machine
end

