-- ==== Sys2Proof/Machine/Requests.lean ====
section
/-! DEFINITION. The meanings of the 29 requests (R200): each hands the argument words to its owner and sends the
answer (R199). -/
namespace Sys2Proof.Machine

/-- What a command answers. -/
abbrev Result := Host.Outcome State Fault Refusal

/-- IDENTIFY, request code 1 (R201). -/
def execIdentify (r : Request) (s : State) : Result := .next (serve 1 reqIdentify r s)

/-- SET_MODE, request code 2 (R155). -/
def execSetMode (r : Request) (s : State) : Result := .next (serve 2 reqSetMode r s)

/-- LINE_RESET, request code 3 (R167). -/
def execLineReset (r : Request) (s : State) : Result := .next (serve 3 reqLineReset r s)

/-- WRITE_LINE_PARAM, request code 4 (R2). -/
def execWriteLineParam (r : Request) (s : State) : Result := .next (serve 4 reqWriteLineParam r s)

/-- READ_LINE_PARAM, request code 5 (R4). -/
def execReadLineParam (r : Request) (s : State) : Result := .next (serve 5 reqReadLineParam r s)

/-- APPLY_LINE, request code 6 (R5). -/
def execApplyLine (r : Request) (s : State) : Result := .next (serve 6 reqApplyLine r s)

/-- WRITE_SIGNAL, request code 7 (R170). -/
def execWriteSignal (r : Request) (s : State) : Result := .next (serve 7 reqWriteSignal r s)

/-- READ_SIGNAL, request code 8 (R171). -/
def execReadSignal (r : Request) (s : State) : Result := .next (serve 8 reqReadSignal r s)

/-- WRITE_CLASS, request code 9 (R90). -/
def execWriteClass (r : Request) (s : State) : Result := .next (serve 9 reqWriteClass r s)

/-- READ_CLASS, request code 10 (R91). -/
def execReadClass (r : Request) (s : State) : Result := .next (serve 10 reqReadClass r s)

/-- OPEN_SLOT, request code 11 (R24). -/
def execOpenSlot (r : Request) (s : State) : Result := .next (serve 11 reqOpenSlot r s)

/-- WRITE_ENTRIES, request code 12 (R25). -/
def execWriteEntries (r : Request) (s : State) : Result := .next (serve 12 reqWriteEntries r s)

/-- CLOSE_SLOT, request code 13 (R26). -/
def execCloseSlot (r : Request) (s : State) : Result := .next (serve 13 reqCloseSlot r s)

/-- RELEASE_SLOT, request code 14 (R34). -/
def execReleaseSlot (r : Request) (s : State) : Result := .next (serve 14 reqReleaseSlot r s)

/-- READ_SLOT, request code 15 (R35). -/
def execReadSlot (r : Request) (s : State) : Result := .next (serve 15 reqReadSlot r s)

/-- PLAN_PANEL, request code 16 (R66). -/
def execPlanPanel (r : Request) (s : State) : Result := .next (serve 16 reqPlanPanel r s)

/-- CANCEL_PANEL, request code 17 (R68). -/
def execCancelPanel (r : Request) (s : State) : Result := .next (serve 17 reqCancelPanel r s)

/-- ABORT_PANEL, request code 18 (R56). -/
def execAbortPanel (r : Request) (s : State) : Result := .next (serve 18 reqAbortPanel r s)

/-- SET_ACTIVE_STAND, request code 19 (R131). -/
def execSetActiveStand (r : Request) (s : State) : Result := .next (serve 19 reqSetActiveStand r s)

/-- START_ROLL_CHANGE, request code 20 (R136). -/
def execStartRollChange (r : Request) (s : State) : Result := .next (serve 20 reqStartRollChange r s)

/-- CANCEL_ROLL_CHANGE, request code 21 (R137). -/
def execCancelRollChange (r : Request) (s : State) : Result := .next (serve 21 reqCancelRollChange r s)

/-- WRITE_REACTION, request code 22 (R183). -/
def execWriteReaction (r : Request) (s : State) : Result := .next (serve 22 reqWriteReaction r s)

/-- READ_REACTION, request code 23 (R184). -/
def execReadReaction (r : Request) (s : State) : Result := .next (serve 23 reqReadReaction r s)

/-- ACK_REACTION, request code 24 (R189). -/
def execAckReaction (r : Request) (s : State) : Result := .next (serve 24 reqAckReaction r s)

/-- ACK_TRIP, request code 25 (R180). -/
def execAckTrip (r : Request) (s : State) : Result := .next (serve 25 reqAckTrip r s)

/-- READ_VIEW, request code 26 (R202). -/
def execReadView (r : Request) (s : State) : Result := .next (serve 26 reqReadView r s)

/-- READ_COMPLETIONS, request code 27 (R86). -/
def execReadCompletions (r : Request) (s : State) : Result := .next (serve 27 reqReadCompletions r s)

/-- READ_FAULTS, request code 28 (R214). -/
def execReadFaults (r : Request) (s : State) : Result := .next (serve 28 reqReadFaults r s)

/-- CLEAR_FAULTS, request code 29 (R215). -/
def execClearFaults (r : Request) (s : State) : Result := .next (serve 29 reqClearFaults r s)

end Sys2Proof.Machine
end

