-- ==== Sys2Proof/WellFormed.lean ====
section
/-! DEFINITION. Which commands are well formed: the operands lie where the spec puts them. `exec` gives every
command a meaning; an ill-formed one stands for nothing the part can receive. -/
namespace Sys2Proof

/-- A request carries sixteen argument words in all, so at most sixteen counted ones (R199, R203). -/
def Request.wf (r : Request) : Bool := r.args.length + r.rest.length == 16

/-- An elapsed count of a used frame (R8). -/
def elapsedWf (e : Nat) : Bool := decide (1 ≤ e ∧ e ≤ 32768)

/-- A well-formed cycle frame has 1 to 64 slots (R192). -/
def CycleFrame.wf (f : CycleFrame) : Bool := decide (1 ≤ f.slots.length ∧ f.slots.length ≤ 64)

/-- A service frame has sixteen argument and sixteen answer words (R192, R203). -/
def ServiceFrame.wf (f : ServiceFrame) : Bool := f.args.length == 16 && f.answers.length == 16

/-- Well-formed commands. -/
def Instr.wf : Instr → Bool
  | .fullReset _ _ _ => true
  | .ringBypassRelease => true
  | .tripInputChange _ _ => true
  | .cycleFrame f => f.wf
  | .frameCheckError b =>
    (b.head? == some 1#8 || b.head? == some 2#8) && (!Machine.wellFormedBytes b || !Machine.checkGood b)
  | .frameTruncated => true
  | .otherKindFrame b => b.head?.isSome && b.head? != some 1#8 && b.head? != some 2#8
  | .serviceFrameForward f => f.wf
  | .unknownRequest code r => (Machine.requestOfCode code.toNat).isNone && r.wf
  | .argumentCountMalformed _ count r => decide (16 < count.toNat) && r.args.isEmpty && r.wf
  | .identify r => r.wf
  | .setMode r => r.wf
  | .lineReset r => r.wf
  | .writeLineParam r => r.wf
  | .readLineParam r => r.wf
  | .applyLine r => r.wf
  | .writeSignal r => r.wf
  | .readSignal r => r.wf
  | .writeClass r => r.wf
  | .readClass r => r.wf
  | .openSlot r => r.wf
  | .writeEntries r => r.wf
  | .closeSlot r => r.wf
  | .releaseSlot r => r.wf
  | .readSlot r => r.wf
  | .planPanel r => r.wf
  | .cancelPanel r => r.wf
  | .abortPanel r => r.wf
  | .setActiveStand r => r.wf
  | .startRollChange r => r.wf
  | .cancelRollChange r => r.wf
  | .writeReaction r => r.wf
  | .readReaction r => r.wf
  | .ackReaction r => r.wf
  | .ackTrip r => r.wf
  | .readView r => r.wf
  | .readCompletions r => r.wf
  | .readFaults r => r.wf
  | .clearFaults r => r.wf
  | .cycleTimeout => true
  | .strokeComplete _ _ => true
  | .strokeTimeout => true
  | .pasteConfirm _ _ => true
  | .pasteTimeout => true
  | .cutConfirm _ _ => true
  | .cutTimeout => true
  | .settleEnd e => elapsedWf e
  | .matchTimeout e => elapsedWf e
  | .purgeEnd e => elapsedWf e
  | .warmupFinish e => elapsedWf e
  | .warmupTimeout e => elapsedWf e
  | .standbyWarning e => elapsedWf e
  | .standby e => elapsedWf e
  | .signalLoss i => decide (i ≤ 13)
  | .ringErrWindowEnd e => elapsedWf e
  | .windowReservation => true
  | .resetNoticeEnd => true

end Sys2Proof
end

