-- ==== Sys2Proof/Machine/Events.lean ====
section
/-! DEFINITION. The meanings of the commands that are no requests: pins, frames, the local timer, and the
happenings the opcode table lists. -/
namespace Sys2Proof.Machine

/-! ### Pins and the local timer -/

/-- FULL_RESET (R209). -/
def execFullReset (address : BitVec 7) (estop guard : Bool) (s : State) : Result :=
  .next (fullReset address estop guard s)

/-- RING_BYPASS_RELEASE (R209). -/
def execRingBypassRelease (s : State) : Result := .next (releaseBypass s)

/-- TRIP_INPUT_CHANGE (R179). -/
def execTripInputChange (input : TripInput) (asserted : Bool) (s : State) : Result :=
  .next (settle (tripChange input asserted s))

/-- CYCLE_TIMEOUT (R198): it comes about while the timer runs (DESIGN CHOICE for local time,
notes/assumptions/25.md). -/
def execCycleTimeout (s : State) : Result := .next (if s.ring.timer.isSome then timeoutExpires s else s)

/-! ### Frames -/

/-- CYCLE_FRAME (R194). A frame that is not well formed fails its frame check (R192). -/
def execCycleFrame (f : CycleFrame) (s : State) : Result :=
  .next
    (taking
      (fun s =>
        if f.wf then takeCycle f s else sendOut (.raw (withSpoiledCheck (cycleBytes f))) (frameError s)) s)

/-- FRAME_CHECK_ERROR (R193). -/
def execFrameCheckError (bytes : List Byte) (s : State) : Result :=
  .next (taking (fun s => sendOut (.raw (withSpoiledCheck bytes)) (frameError s)) s)

/-- FRAME_TRUNCATED (R192). -/
def execFrameTruncated (s : State) : Result := .next (taking (fun s => sendOut .discarded (frameError s)) s)

/-- OTHER_KIND_FRAME (R192). -/
def execOtherKindFrame (bytes : List Byte) (s : State) : Result := .next (taking (sendOut (.raw bytes)) s)

/-- SERVICE_FRAME_FORWARD (R199). -/
def execServiceFrameForward (f : ServiceFrame) (s : State) : Result := .next (taking (sendOut (.service f)) s)

/-- UNKNOWN_REQUEST (R199). -/
def execUnknownRequest (code : Byte) (r : Request) (s : State) : Result :=
  .next (taking (sendAnswer code (BitVec.ofNat 8 r.args.length) r .unknown) s)

/-- ARGUMENT_COUNT_MALFORMED (R199). -/
def execArgumentCountMalformed (code count : Byte) (r : Request) (s : State) : Result :=
  .next (taking (sendAnswer code count r .malformed) s)

/-! ### Happenings inside a used cycle frame -/

/-- STROKE_COMPLETE (R51). -/
def execStrokeComplete (status : BladeStatus) (done : Serial8) (s : State) : Result := .next (strokeCompletes status done s)

/-- STROKE_TIMEOUT (R52). -/
def execStrokeTimeout (s : State) : Result := .next (strokeTimesOut s)

/-- PASTE_CONFIRM (R145). -/
def execPasteConfirm (paste cut : Serial8) (s : State) : Result := .next (pasteConfirmed paste cut s)

/-- PASTE_TIMEOUT (R145). -/
def execPasteTimeout (s : State) : Result := .next (pasteTimesOut s)

/-- CUT_CONFIRM (R146). -/
def execCutConfirm (paste cut : Serial8) (s : State) : Result := .next (cutConfirmed paste cut s)

/-- CUT_TIMEOUT (R146). -/
def execCutTimeout (s : State) : Result := .next (cutTimesOut s)

/-- SETTLE_END (R147). -/
def execSettleEnd (e : Nat) (s : State) : Result := .next (settleEnds e s)

/-- MATCH_TIMEOUT (R142). -/
def execMatchTimeout (e : Nat) (s : State) : Result := .next (matchTimesOut e s)

/-- PURGE_END (R187). -/
def execPurgeEnd (e : Nat) (s : State) : Result := .next (purgeEnds e s)

/-- WARMUP_FINISH (R109). -/
def execWarmupFinish (e : Nat) (s : State) : Result := .next (warmupFinishes e s)

/-- WARMUP_TIMEOUT (R110). -/
def execWarmupTimeout (e : Nat) (s : State) : Result := .next (warmupTimesOut e s)

/-- STANDBY_WARNING (R107). -/
def execStandbyWarning (e : Nat) (s : State) : Result := .next (phaseComes .warning e s)

/-- STANDBY (R107). -/
def execStandby (e : Nat) (s : State) : Result := .next (phaseComes .standby e s)

/-- SIGNAL_LOSS (R174). -/
def execSignalLoss (signal : Nat) (s : State) : Result := .next (signalLost signal s)

/-- RING_ERR_WINDOW_END (R178). -/
def execRingErrWindowEnd (e : Nat) (s : State) : Result := .next (errWindowEnds e s)

/-- WINDOW_RESERVATION (R74). -/
def execWindowReservation (s : State) : Result := .next (waitingWindow s)

/-- RESET_NOTICE_END (R197). -/
def execResetNoticeEnd (s : State) : Result := .next (noticeEnds s)

end Sys2Proof.Machine
end

