-- ==== Sys2Proof/Machine/Dispatch.lean ====
section
/-! DEFINITION. The dispatch: one meaning for each command. -/
namespace Sys2Proof.Machine

/-- A command's effect on everything but the queue of waiting commands. -/
def exec (i : Instr) (s : State) : Host.Outcome State Fault Refusal :=
  match i with
  | .fullReset address estop guard => Sys2Proof.Machine.execFullReset address estop guard s
  | .ringBypassRelease => Sys2Proof.Machine.execRingBypassRelease s
  | .tripInputChange input asserted => Sys2Proof.Machine.execTripInputChange input asserted s
  | .cycleFrame f => Sys2Proof.Machine.execCycleFrame f s
  | .frameCheckError bytes => Sys2Proof.Machine.execFrameCheckError bytes s
  | .frameTruncated => Sys2Proof.Machine.execFrameTruncated s
  | .otherKindFrame bytes => Sys2Proof.Machine.execOtherKindFrame bytes s
  | .serviceFrameForward f => Sys2Proof.Machine.execServiceFrameForward f s
  | .unknownRequest code r => Sys2Proof.Machine.execUnknownRequest code r s
  | .argumentCountMalformed code count r => Sys2Proof.Machine.execArgumentCountMalformed code count r s
  | .identify r => Sys2Proof.Machine.execIdentify r s
  | .setMode r => Sys2Proof.Machine.execSetMode r s
  | .lineReset r => Sys2Proof.Machine.execLineReset r s
  | .writeLineParam r => Sys2Proof.Machine.execWriteLineParam r s
  | .readLineParam r => Sys2Proof.Machine.execReadLineParam r s
  | .applyLine r => Sys2Proof.Machine.execApplyLine r s
  | .writeSignal r => Sys2Proof.Machine.execWriteSignal r s
  | .readSignal r => Sys2Proof.Machine.execReadSignal r s
  | .writeClass r => Sys2Proof.Machine.execWriteClass r s
  | .readClass r => Sys2Proof.Machine.execReadClass r s
  | .openSlot r => Sys2Proof.Machine.execOpenSlot r s
  | .writeEntries r => Sys2Proof.Machine.execWriteEntries r s
  | .closeSlot r => Sys2Proof.Machine.execCloseSlot r s
  | .releaseSlot r => Sys2Proof.Machine.execReleaseSlot r s
  | .readSlot r => Sys2Proof.Machine.execReadSlot r s
  | .planPanel r => Sys2Proof.Machine.execPlanPanel r s
  | .cancelPanel r => Sys2Proof.Machine.execCancelPanel r s
  | .abortPanel r => Sys2Proof.Machine.execAbortPanel r s
  | .setActiveStand r => Sys2Proof.Machine.execSetActiveStand r s
  | .startRollChange r => Sys2Proof.Machine.execStartRollChange r s
  | .cancelRollChange r => Sys2Proof.Machine.execCancelRollChange r s
  | .writeReaction r => Sys2Proof.Machine.execWriteReaction r s
  | .readReaction r => Sys2Proof.Machine.execReadReaction r s
  | .ackReaction r => Sys2Proof.Machine.execAckReaction r s
  | .ackTrip r => Sys2Proof.Machine.execAckTrip r s
  | .readView r => Sys2Proof.Machine.execReadView r s
  | .readCompletions r => Sys2Proof.Machine.execReadCompletions r s
  | .readFaults r => Sys2Proof.Machine.execReadFaults r s
  | .clearFaults r => Sys2Proof.Machine.execClearFaults r s
  | .cycleTimeout => Sys2Proof.Machine.execCycleTimeout s
  | .strokeComplete status done => Sys2Proof.Machine.execStrokeComplete status done s
  | .strokeTimeout => Sys2Proof.Machine.execStrokeTimeout s
  | .pasteConfirm paste cut => Sys2Proof.Machine.execPasteConfirm paste cut s
  | .pasteTimeout => Sys2Proof.Machine.execPasteTimeout s
  | .cutConfirm paste cut => Sys2Proof.Machine.execCutConfirm paste cut s
  | .cutTimeout => Sys2Proof.Machine.execCutTimeout s
  | .settleEnd e => Sys2Proof.Machine.execSettleEnd e s
  | .matchTimeout e => Sys2Proof.Machine.execMatchTimeout e s
  | .purgeEnd e => Sys2Proof.Machine.execPurgeEnd e s
  | .warmupFinish e => Sys2Proof.Machine.execWarmupFinish e s
  | .warmupTimeout e => Sys2Proof.Machine.execWarmupTimeout e s
  | .standbyWarning e => Sys2Proof.Machine.execStandbyWarning e s
  | .standby e => Sys2Proof.Machine.execStandby e s
  | .signalLoss signal => Sys2Proof.Machine.execSignalLoss signal s
  | .ringErrWindowEnd e => Sys2Proof.Machine.execRingErrWindowEnd e s
  | .windowReservation => Sys2Proof.Machine.execWindowReservation s
  | .resetNoticeEnd => Sys2Proof.Machine.execResetNoticeEnd s

end Sys2Proof.Machine
end

