-- ==== Sys2Proof/Safety.lean ====
section
/-! DEFINITION. What counts as a safe run, and the invariants of the state that the claims use. -/
namespace Sys2Proof.Machine

/-- A command is accepted by the model: it ends in a next state. -/
def completes (c : Instr) (s : State) : Prop := ∃ t, exec c s = .next t

/-- FAULT_LATCHED is active exactly while a group flag is set, the history holds at most 16 entries, each with a
repeat count from 1 to 255 (R212, R213). -/
def faultRecordOk (s : State) : Prop :=
  (s.cond .faultLatched = true ↔ s.fault.flags ≠ 0) ∧ s.fault.history.length ≤ Config.historyPlaces ∧
    ∀ h ∈ s.fault.history, 1 ≤ h.repeats ∧ h.repeats ≤ 255

/-- The completion log holds at most 32 entries (R85). -/
def logOk (s : State) : Prop := s.plan.log.length ≤ Config.logPlaces

/-- Each brake is the one its stand's role and deactivation step give (R130). -/
def brakesOk (s : State) : Prop :=
  ∀ x : Stand, (s.stand x).brake = brakeOf (s.stand x).role (s.stand x).step (s.stand x).steps

/-- The stand speed commands are safe while the line halts: in HALT and HALTING every speed command is 0
(R123, R119, R122). -/
def haltedSpeeds (s : State) : Prop :=
  s.mode.mode = .halt ∨ s.mode.mode = .halting →
    s.gov.conv = 0 ∧ s.gov.feed = 0 ∧ s.gov.standA = 0 ∧ s.gov.standB = 0

/-- Both fine positions lie in their range (R16). -/
def positionsInRange (s : State) : Prop :=
  s.pos.flat.fine ≤ Config.finePositionMax ∧ s.pos.conv.fine ≤ Config.finePositionMax

/-- The purge timer is held by at most one entry (R186). -/
def onePurge (s : State) : Prop := (s.react.entries.filter fun e => e.state == .purge).length ≤ 1

/-- Every table has its size (R1, R19, R89, R93, R169, R182). -/
def tablesSized (s : State) : Prop :=
  s.sig.entries.length = 27 ∧ s.pat.length = 32 ∧ (∀ p ∈ s.pat, p.entries.length = 64) ∧
    s.heat.classes.length = 16 ∧ s.heat.zones.length = 4 ∧ s.react.entries.length = 8 ∧
    s.table.edit.length = 50 ∧ s.table.applied.length = 50

/-- No GAP stands next to a GAP in the plan (R70). -/
def gapsMerged (s : State) : Prop :=
  ∀ i g h, s.plan.segs[i]? = some g → s.plan.segs[i + 1]? = some h → ¬(g.kind = .gap ∧ h.kind = .gap)

/-- Every parameter of both images lies in its range, CYCLE_US being a multiple of 250 (R3). -/
def paramsInRange (s : State) : Prop :=
  ∀ image, image = s.table.edit ∨ image = s.table.applied → ∀ n, 1 ≤ n → n ≤ 50 →
    ∃ range, paramRanges[n - 1]? = some range ∧ range.1 ≤ paramOf image n ∧ paramOf image n ≤ range.2 ∧
      (n = 1 → paramOf image n % 250 = 0)

/-- A slot is LOCKED exactly when its use count is above 0 (R37). -/
def slotsLockedWhileUsed (s : State) : Prop := ∀ p ∈ s.pat, p.state = .locked ↔ 0 < p.useCount

/-- The plan is ordered and without a break: its first segment begins at the plan origin and every other one where its
predecessor ends; PANELs and GAPs are movable, SPLICEs anchored, and what is anchored or a WINDOW has a length (R63).
The segment at the blade is the newest of the set map, which is empty without one (R40, R81). -/
def planContiguous (s : State) : Prop :=
  (∀ i g, s.plan.segs[i]? = some g →
    g.start =
      (match (if i = 0 then none else s.plan.segs[i - 1]?) with
       | some h => segEnd h
       | none => s.planOrigin)) ∧
    (∀ g ∈ s.plan.segs,
      (isPanel g.kind = true ∨ g.kind = .gap → g.anchored = false) ∧ (g.kind = .splice → g.anchored = true) ∧
        (g.anchored = true ∨ g.kind = .window → 0 < g.len)) ∧
    match s.fold.seg with
    | some g => ∃ r, s.plan.setMap.getLast? = some r ∧ r.serial = g.serial ∧ r.start = g.start ∧ r.len = g.len
    | none => s.plan.setMap = []

/-- Every reaction entry is disabled and IDLE: REACT has no part in what follows. -/
def reactQuiet (s : State) : Prop := ∀ e ∈ s.react.entries, e.enabled = false ∧ e.state = .idle

/-- REACT has nothing to judge as the state stands: no entry is to be triggered (R185), cleared (R189) or given the
purge timer (R186), and PRESSURE_LOW is not to be made inactive (R102). -/
def reactAtRest (s : State) : Prop :=
  (∀ e ∈ s.react.entries,
    e.state ≠ .waiting ∧ (e.state = .idle → e.enabled = true → e.trigger &&& s.react.marks = 0) ∧
      (e.state = .applied → e.autoClear = true → e.trigger &&& s.react.marks ≠ 0)) ∧
    (s.cond .pressureLow = false ∨ valveOpen s = true)

/-- The state with a request's answer sent, the count of its argument words as it arrived (R199). -/
def reply (code : Nat) (r : Request) (a : Answer) (s : State) : State :=
  sendAnswer (BitVec.ofNat 8 code) (BitVec.ofNat 8 r.args.length) r a s

/-- The line is in one of the modes from which HALTING is entered (R163). -/
def moving (s : State) : Prop := s.mode.mode ≠ .halt ∧ s.mode.mode ≠ .halting

/-- Every speed command is 0 (R123). -/
def speedsZero (s : State) : Prop :=
  s.gov.conv = 0 ∧ s.gov.feed = 0 ∧ s.gov.standA = 0 ∧ s.gov.standB = 0

/-- The signal map, supervision and trips, positions and line table are those of another state. -/
def sameInputs (s t : State) : Prop := t.sig = s.sig ∧ t.pos = s.pos ∧ t.table = s.table

/-! ### Groups of a pattern (R22, R29) -/

/-- The groups an entry opens, less those it closes. -/
def groupStep : Entry → Int
  | .groupBegin _ => 1
  | .groupEnd => -1
  | _ => 0

/-- The groups opened, less those closed, among the entries from index a up to but not including b. -/
def groupsBetween (es : List Entry) (a b : Nat) : Int := (((es.take b).drop a).map groupStep).sum

/-- The group begun by entry j is still open before entry i: no entry between them closes more groups than are opened
behind j (R22, R29). -/
def groupOpenAt (es : List Entry) (j i : Nat) : Bool :=
  decide (j < i) && (List.range (i - j)).all fun d => decide (0 ≤ groupsBetween es (j + 1) (j + 1 + d))

/-- The multiplicity of the entry at an index: the product of the repeats of all the groups that enclose it (R22). -/
def multiplicity (es : List Entry) (i : Nat) : Nat :=
  ((List.range i).map fun j =>
    match es[j]? with
    | some (.groupBegin r) => if groupOpenAt es j i then r else 1
    | _ => 1).foldr (· * ·) 1

/-- A weight of the first n entries, each counted times its multiplicity (R30, R32). -/
def weighted (weight : Entry → Nat) (es : List Entry) (n : Nat) : Nat :=
  ((es.take n).zipIdx.map fun x => weight x.1 * multiplicity es x.2).sum

end Sys2Proof.Machine
end

