-- ==== Sys2Proof/Certificates/Slice0/Obligations.lean ====
section
/-! DEFINITION. The statements for the provers. -/
open Sys2Proof Sys2Proof.Machine

/-! ### The step and the queue -/

/-- The step runs the command at the front of the queue with the queue's rest, and idles on an empty queue. The
queue and its idling are the model's choice (notes/assumptions/1.md). -/
def Obligations.StepRunsFrontCommand : Prop :=
  (∀ (c : Instr) (rest : List Instr) (s : State),
      step { s with pending := c :: rest } = exec c { s with pending := rest }) ∧
    ∀ s : State, s.pending = [] → step s = .next s

/-- Every command ends in a next state, and leaves the queue as it is (the model's queue,
notes/assumptions/1.md). -/
def Obligations.EveryCommandCompletes : Prop :=
  ∀ (c : Instr) (s : State), ∃ t, exec c s = .next t ∧ t.pending = s.pending

/-! ### Frames on the ring -/

/-- The bytes of a well-formed cycle frame, its check behind them, are taken as that cycle frame, and the bytes of a
well-formed service frame as the command that frame brings, every field as it was laid out (R203, R193, R199). That
command: a frame for another address, or one already answered, is forwarded; an argument count above 16 is answered
MALFORMED and a code that names no request UNKNOWN; each of the codes 1 to 29 brings its request, with the argument
words that the count names (R199, R200). -/
def Obligations.FramesReadBack : Prop :=
  (∀ (a : BitVec 7) (f : CycleFrame), f.wf = true → receive a (cycleBytes f) = .cycleFrame f) ∧
    (∀ (a : BitVec 7) (f : ServiceFrame), f.wf = true → receive a (serviceBytes f) = serviceCommand a f) ∧
    (∀ (a : BitVec 7) (f : ServiceFrame) (r : Request),
      (f.dest ≠ a ∨ f.answerCode ≠ 0 → serviceCommand a f = .serviceFrameForward f) ∧
      (f.dest = a → f.answerCode = 0 →
        (16 < f.argCount.toNat →
          serviceCommand a f =
            .argumentCountMalformed f.code f.argCount
              { args := [], rest := f.args, destTop := f.destTop, byte7 := f.byte7 }) ∧
        (f.argCount.toNat ≤ 16 →
          r = { args := f.args.take f.argCount.toNat, rest := f.args.drop f.argCount.toNat, destTop := f.destTop,
                byte7 := f.byte7 } →
          (∀ c, requestOfCode f.code.toNat = some c → serviceCommand a f = c r) ∧
          (requestOfCode f.code.toNat = none → serviceCommand a f = .unknownRequest f.code r)))) ∧
    (∀ r : Request,
      (List.range 29).filterMap (fun n => (requestOfCode (n + 1)).map (fun c => c r)) =
          [.identify r, .setMode r, .lineReset r, .writeLineParam r, .readLineParam r, .applyLine r, .writeSignal r,
           .readSignal r, .writeClass r, .readClass r, .openSlot r, .writeEntries r, .closeSlot r, .releaseSlot r,
           .readSlot r, .planPanel r, .cancelPanel r, .abortPanel r, .setActiveStand r, .startRollChange r,
           .cancelRollChange r, .writeReaction r, .readReaction r, .ackReaction r, .ackTrip r, .readView r,
           .readCompletions r, .readFaults r, .clearFaults r] ∧
        requestOfCode 0 = none) ∧
    ∀ n : Nat, 29 < n → requestOfCode n = none

/-- Frames of other kinds and service frames for other nodes leave as they arrived, and requests that no block owns
are answered UNKNOWN or MALFORMED; nothing else changes (R192, R199). While RING_BYPASS is asserted no frame and no
request changes anything (R209; that none has any effect: notes/assumptions/6.md). A FRAME_CHECK error lowers the error
budget by one and a frame received whole leaves with the complement of its check; at budget 0 RING_DEGRADED is active;
with nothing for REACT to judge, nothing else changes. The frame so forwarded is a FRAME_CHECK error at every node that
takes it (R192, R193, R178). -/
def Obligations.FramesNotUsed : Prop :=
  (∀ s : State,
    (s.ring.bypass = false →
      (∀ b, exec (.otherKindFrame b) s = .next { s with ring := { s.ring with out := .raw b } }) ∧
      (∀ f, exec (.serviceFrameForward f) s = .next { s with ring := { s.ring with out := .service f } }) ∧
      (∀ code r, exec (.unknownRequest code r) s = .next (reply code.toNat r .unknown s)) ∧
      ∀ code n r, exec (.argumentCountMalformed code n r) s = .next (sendAnswer code n r .malformed s)) ∧
    (s.ring.bypass = true →
      (∀ f, exec (.cycleFrame f) s = .next s) ∧ (∀ b, exec (.frameCheckError b) s = .next s) ∧
      exec .frameTruncated s = .next s ∧ (∀ b, exec (.otherKindFrame b) s = .next s) ∧
      (∀ f, exec (.serviceFrameForward f) s = .next s) ∧ (∀ code r, exec (.unknownRequest code r) s = .next s) ∧
      (∀ code n r, exec (.argumentCountMalformed code n r) s = .next s) ∧
      ∀ n c r, requestOfCode n = some c → exec (c r) s = .next s)) ∧
    (∀ (s : State) (c : Instr) (out : RingOut), s.ring.bypass = false →
      (∃ b, c = .frameCheckError b ∧ out = .raw (withSpoiledCheck b)) ∨ (c = .frameTruncated ∧ out = .discarded) →
      ∃ t, exec c s = .next t ∧ t.ring = { s.ring with budget := s.ring.budget - 1, out := out } ∧ sameInputs s t ∧
        (s.ring.budget ≤ 1 → t.cond .ringDegraded = true) ∧
        (2 ≤ s.ring.budget → reactAtRest s →
          t = { s with ring := { s.ring with budget := s.ring.budget - 1, out := out } })) ∧
    ∀ (a : BitVec 7) (k : Byte) (rest : List Byte), k = 1#8 ∨ k = 2#8 → 2 ≤ rest.length →
      receive a (withSpoiledCheck (k :: rest)) = .frameCheckError (withSpoiledCheck (k :: rest))

/-- The answer leaves in the request's own frame: address, code, argument words and the bytes that are not examined
as they arrived; the answer code; the reason and detail of a refusal only; the answer words, and 0 behind them
(R199, R200). No request answered UNKNOWN or MALFORMED changes any state, and none answered REFUSED does, but that a
refused APPLY_LINE (code 6) leaves its apply detail (R200, R5). The refusal reasons have the codes 1 to 37 (R200). -/
def Obligations.AnswersSent : Prop :=
  ([Reason.wrongMode, .lineNotEmpty, .noSuchParam, .outOfRange, .crossCheck, .noSuchSlot, .inUse, .notOpen, .closeCheck,
      .notLoaded, .notAtBlade, .foldsDone, .lineUnset, .slotNotReady, .classUndefined, .patternUnfit, .classUnfit,
      .orderTooShort, .orderIdInUse, .planFull, .started, .notFound, .classSeparation, .busy, .notPresent,
      .noActiveStand, .notReady, .nothingToCancel, .forced, .tooLate, .notAllowed, .inhibited, .checkFailed, .slotInUse,
      .notIdle, .notApplied, .stillActive].map reasonCode = (List.range 37).map (· + 1)) ∧
  (∀ (code n : Byte) (r : Request) (a : Answer) (s : State), (answerWords a).length ≤ 16 →
    ∃ f : ServiceFrame, sendAnswer code n r a s = { s with ring := { s.ring with out := .service f } } ∧
      f.dest = s.ring.address ∧ f.destTop = r.destTop ∧ f.byte7 = r.byte7 ∧ f.code = code ∧ f.argCount = n ∧
      f.args = r.args ++ r.rest ∧
      f.answerCode =
        (match a with | .done _ => 1#8 | .refused _ _ => 2#8 | .unknown => 3#8 | .malformed => 4#8) ∧
      f.answerCount = BitVec.ofNat 8 (answerWords a).length ∧
      f.answers = answerWords a ++ List.replicate (16 - (answerWords a).length) 0 ∧
      ((∀ x d, a ≠ .refused x d) → f.reason = 0 ∧ f.detail = 0) ∧
      ∀ x d, a = .refused x d → f.reason = BitVec.ofNat 8 (reasonCode x) ∧ f.detail = word d) ∧
    ∀ (n : Nat) (c : Request → Instr), requestOfCode n = some c →
      ∀ (r : Request) (s t : State), exec (c r) s = .next t → ∀ f, t.ring.out = .service f →
        (f.answerCode = 3#8 ∨ f.answerCode = 4#8 → t = { s with ring := { s.ring with out := t.ring.out } }) ∧
        (f.answerCode = 2#8 →
          if n = 6 then
            ∃ d, t = { s with ring := { s.ring with out := t.ring.out }, table := { s.table with applyDetail := d } }
          else t = { s with ring := { s.ring with out := t.ring.out } })

/-- The release of the bypass starts the cycle timeout at 4 × CYCLE_US; its expiry raises RING_LOST, records fault
721, and enters HALTING with cause RING_LOST and every speed command 0 unless the line is in HALT or HALTING (R198,
R209). That this is the cause also where a HALT reaction on RING_LOST or FAULT_LATCHED is applied in the same event is
the model's choice (notes/assumptions/45.md). -/
def Obligations.CycleTimerStartsAndExpires : Prop :=
  (∀ s : State, s.ring.bypass = true →
      exec .ringBypassRelease s =
        .next { s with ring := { s.ring with bypass := false, timer := some (4 * s.par 1) } }) ∧
    ∀ s : State, s.ring.timer.isSome = true →
      ∃ t, exec .cycleTimeout s = .next t ∧ t.ring = { s.ring with timer := none, expired := true } ∧
        sameInputs s t ∧ t.cond .ringLost = true ∧ t.fault.flags.getLsbD 6 = true ∧
        (moving s → t.mode = { mode := .halting, step := 0, cause := .ringLost } ∧ speedsZero t) ∧
        (¬ moving s → t.mode = s.mode)

/-- What FULL_RESET leaves: every field of every block at its Full reset value, the straps as address, each trip
input's level as found with its condition active and its fault recorded while asserted, and the model's queue as it
was (R209, R1, R17, R19, R60, R63, R80, R83, R85, R89, R113, R127, R133, R134, R154, R169, R178, R179, R182). The
queue, and a reset taken as one event with the straps and levels as its operands, are the model's
(notes/assumptions/2.md, 26.md); the values the spec does not give, the encoders' baseline counts, the entry words and
the notice not yet shown among them, are those of notes/assumptions/13.md; ESTOP before GUARD is
notes/assumptions/40.md. -/
def Obligations.FullResetValues : Prop :=
  ∀ (a : BitVec 7) (e g : Bool) (s : State), ∃ t, exec (.fullReset a e g) s = .next t ∧
    t.ring =
      { toggles := 0, timer := none, expired := false, seqOpen := false, notice := 64, noticeShown := false, address := a,
        budget := 16, window := 0, bypass := true, out := .quiet } ∧
    t.sig =
      { entries :=
          List.replicate 27
            { slot := none, nodeKind := 0, staleLimit := 1, state := .unmapped, stale := 0, toggle := none,
              lastGood := none, lossOpen := false, nodeOpen := false, kindOpen := false }
        estop := { asserted := e, latch := false }, guard := { asserted := g, latch := false } } ∧
    (∀ x : Encoder, x = t.pos.flat ∨ x = t.pos.conv →
      x = { fine := 0, excess := 0, baseline := 0, valid := false, since := 0, jumpOpen := false,
            saturated := false }) ∧
    t.pos.lastCycle = none ∧ t.pos.elapsed = 0 ∧
    t.table = { state := .unset, edit := paramResets, applied := paramResets, applyDetail := none } ∧
    t.pat =
      List.replicate 32
        { state := .free, entries := List.replicate 64 (0, 0), written := 0, entryCount := none, closeSum := none,
          totals := none, useCount := 0 } ∧
    t.fold =
      { seg := none, held := 0, synced := false, heldDir := .left, heldDepth := 0, heldLast := false, stroke := none,
        status := none, done := 0, failLatch := false } ∧
    t.walk = none ∧
    t.plan =
      { segs := [], originMark := 0, counter := 0, setMap := [], cutSerial := 0, divert := true, log := [],
        discard := false } ∧
    t.heat =
      { classes :=
          List.replicate 16
            { isDefined := false, minDwell := 0, targetDwell := 0, maxDwell := 0, tol := 0, bandAllow := 0,
              sets := [0, 0, 0, 0], useCount := 0 }
        zones := [none, none, none, none], press := none, cells := [], acc := 0, steam := false, phase := .counting,
        standbyTimer := 0, stable := 0, warm := 0 } ∧
    t.gov =
      { conv := 0, target := 0, cause := .mode, request := 0, ratio := 65536, feed := 0, standA := 0, standB := 0,
        limits := { request := none, dwell := none, stroke := none, splice := none, mode := some 0, reaction := none },
        governed := 0, dwellSerial := none, strokeSerial := none, saturated := false } ∧
    (∀ x : Stand,
      t.stand x = { role := none, diam := none, speed := none, step := 0, steps := 0, brake := true }) ∧
    t.roll =
      { standA := t.roll.standA, standB := t.roll.standB, state := .idle, incoming := none, forced := false,
        winStatus := .none, winSerial := none, pastePos := none, matchCount := 0, matched := false, matchTimer := 0,
        confirmAge := 0, settleCount := 0, missCount := 0, hold := false, failed := false, noStandby := false,
        pasteSerial := 0, cutSerial := 0, synced := false, pasteFlight := false, cutFlight := false, lastPaste := 0,
        lastCut := 0, arm := false, armStand := .a } ∧
    t.react.entries =
      List.replicate 8
        { enabled := false, trigger := 0, priority := 1, modeAction := .none, speedCap := none, steamAction := .keep,
          purgeCycles := 0, inhibit := false, autoClear := false, state := .idle, remaining := 0 } ∧
    (∀ c : Cond,
      t.cond c = (decide (c = .estop) && e || decide (c = .guard) && g || decide (c = .faultLatched) && (e || g))) ∧
    t.mode = { mode := .halt, step := 0, cause := .none } ∧
    t.fault =
      { history :=
          (if g = true then [{ detail := 831, subject := .none, cycle := 0, pBlade := 0, repeats := 1 }] else []) ++
            if e = true then [{ detail := 821, subject := .none, cycle := 0, pBlade := 0, repeats := 1 }] else []
        flags := if e = true ∨ g = true then 128#8 else 0 } ∧
    (∀ notice, (commandValue notice t 14).getLsbD 31 = false) ∧ t.pending = s.pending

/-- The elapsed count POS gives (R8), and what RING, POS and GOV take from a used cycle frame: time base, cycle
timeout, RING_LOST, sequence episode, reset notice and master speed request; the frame leaves as a cycle frame of
the same cycle number, speed request and slot count (R8, R115, R194, R196, R197, R198). A frame's slot errors: one for
each mapped signal whose slot is damaged, by its parity, its reserved bits or its index field, and one when a mapped
signal is missing (R195). They lower the budget, down to 0, which makes RING_DEGRADED active, with fault 711 where it
was not; the window count then grows, and at RING_ERR_WINDOW the budget is reloaded and a budget still above 0 ends the
condition (R178). -/
def Obligations.UsedFrameTaken : Prop :=
  (∀ (s : State) (cycle : BitVec 16),
      (s.pos.lastCycle = none → elapsedFor s cycle = 1) ∧
      ∀ last, s.pos.lastCycle = some last →
        elapsedFor s cycle =
          if s.ring.expired = true ∧ ((cycle - last).toNat = 0 ∨ 32768 < (cycle - last).toNat) then 1
          else (cycle - last).toNat) ∧
    (∀ (k : Nat) (x : Slot),
      slotDamaged k x = true ↔ slotOnes x % 2 = 1 ∨ x.reserved ≠ 0 ∨ x.index.toNat ≠ k) ∧
    (∀ (f : CycleFrame) (s : State) (damaged : Nat), s.sig.entries.length = 27 →
      damaged =
        ((List.range 27).filter fun i =>
          match (s.entry i).slot with
          | some k => (match f.slots[k]? with | some x => slotDamaged k x | none => false)
          | none => false).length →
      ((∃ i k, (s.entry i).slot = some k ∧ f.slots.length ≤ k) → slotErrors f s = damaged + 1) ∧
      ((∀ i k, (s.entry i).slot = some k → k < f.slots.length) → slotErrors f s = damaged)) ∧
    (∀ (n : Nat) (s t : State), t = lowerBudget n s →
      t.ring = { s.ring with budget := s.ring.budget - n } ∧
        t.cond .ringDegraded = (s.cond .ringDegraded || (decide (0 < n) && decide (s.ring.budget ≤ n))) ∧
        (if 0 < n ∧ s.ring.budget ≤ n ∧ s.cond .ringDegraded = false then
           t.fault.history.head?.map (fun h => (h.detail, h.subject)) = some (711, .none)
         else t.fault = s.fault)) ∧
    ∀ (f : CycleFrame) (s : State) (e left window : Nat), s.ring.bypass = false → f.wf = true →
      e = elapsedFor s f.cycle → 1 ≤ e → e ≤ 32768 → left = s.ring.budget - slotErrors f s →
      window = min 65535 (s.ring.window + e) →
      ∃ t g, exec (.cycleFrame f) s = .next t ∧ t.pos.lastCycle = some f.cycle ∧ t.pos.elapsed = e ∧
        t.ring.timer = some (4 * s.par 1) ∧ t.ring.expired = false ∧ t.ring.seqOpen = false ∧
        t.cond .ringLost = false ∧ t.ring.notice = s.ring.notice - 1 ∧
        t.ring.noticeShown = decide (0 < s.ring.notice) ∧ t.table = s.table ∧ t.ring.address = s.ring.address ∧
        t.gov.request = f.speed.toInt.toNat ∧ t.ring.out = .cycle g ∧ g.cycle = f.cycle ∧ g.speed = f.speed ∧
        g.slots.length = f.slots.length ∧
        t.ring.budget = (if s.par 48 ≤ window then s.par 47 else left) ∧
        t.ring.window = (if s.par 48 ≤ window then 0 else window) ∧
        t.cond .ringDegraded =
          (if left = 0 then s.cond .ringDegraded || decide (0 < slotErrors f s)
           else if s.par 48 ≤ window then false else s.cond .ringDegraded) ∧
        (left = 0 → 0 < slotErrors f s → s.cond .ringDegraded = false → t.fault.flags.getLsbD 6 = true)

/-- A SEQUENCE error: the frame is not used, its errors, that one and those of its slots, which UsedFrameTaken spells
out, lower the budget, RING_DEGRADED is active at budget 0, and the first of an episode records fault 731; it leaves as
a forwarded cycle frame (R178, R194, R195, R196, R197, R198).
That no mismatch episode of a command signal opens or closes is notes/assumptions/16.md. -/
def Obligations.SequenceErrorRefused : Prop :=
  ∀ (f : CycleFrame) (s : State), s.ring.bypass = false → f.wf = true →
    elapsedFor s f.cycle = 0 ∨ 32768 < elapsedFor s f.cycle →
    ∃ t g, exec (.cycleFrame f) s = .next t ∧ sameInputs s t ∧ t.ring.timer = s.ring.timer ∧
      t.ring.expired = s.ring.expired ∧ t.ring.seqOpen = true ∧ t.ring.window = s.ring.window ∧
      t.ring.budget = s.ring.budget - (1 + slotErrors f s) ∧
      t.cond .ringDegraded = (s.cond .ringDegraded || decide (s.ring.budget ≤ 1 + slotErrors f s)) ∧
      (s.ring.seqOpen = false → t.fault.flags.getLsbD 6 = true) ∧ t.ring.notice = s.ring.notice - 1 ∧
      t.ring.out = .cycle g ∧ g.cycle = f.cycle ∧ g.speed = f.speed ∧ g.slots.length = f.slots.length

/-- In every forwarded cycle frame: a slot that no command signal is mapped to leaves as it arrived; one that a command
signal alone is mapped to leaves with the owner's value, the flipped toggle, node status OK and even parity, unless it
is damaged or mismatched, when it leaves as it arrived and the held toggle stays (R195, R196). In a frame that is not
used this is the model's choice: that its command slots are written so (notes/assumptions/16.md), and that the values
are those after the reactions that the frame's own errors trigger (notes/assumptions/44.md). -/
def Obligations.CommandSlotsWritten : Prop :=
  (∀ (x : Slot) (v : Word) (b : Bool),
      (slotWritten x v b).value = v ∧ (slotWritten x v b).toggle = b ∧ (slotWritten x v b).nodeFault = false ∧
      (slotWritten x v b).index = x.index ∧ (slotWritten x v b).command = x.command ∧
      (slotWritten x v b).nodeKind = x.nodeKind ∧ slotOnes (slotWritten x v b) % 2 = 0) ∧
    ∀ (f : CycleFrame) (s t : State), s.ring.bypass = false → f.wf = true → exec (.cycleFrame f) s = .next t →
      ∃ g, t.ring.out = .cycle g ∧
        (∀ k, (∀ i, 14 ≤ i → i ≤ 26 → (t.entry i).slot ≠ some k) → g.slots[k]? = f.slots[k]?) ∧
        ∀ i k x, 14 ≤ i → i ≤ 26 → (t.entry i).slot = some k →
          (∀ j, 14 ≤ j → j ≤ 26 → j ≠ i → (t.entry j).slot ≠ some k) → f.slots[k]? = some x →
          if slotDamaged k x = false ∧ x.command = true ∧ x.nodeKind.toNat = (t.entry i).nodeKind then
            g.slots[k]? =
                some (slotWritten x (commandValue (decide (0 < s.ring.notice)) t i) (!heldToggle s.ring.toggles i)) ∧
              heldToggle t.ring.toggles i = !heldToggle s.ring.toggles i
          else g.slots[k]? = some x ∧ heldToggle t.ring.toggles i = heldToggle s.ring.toggles i

/-! ### Invariants that every step keeps -/

/-- Both fine positions stay in their range, and no command but FULL_RESET and LINE_RESET lowers one (R11, R16). -/
def Obligations.PositionsNeverDecrease : Prop :=
  ∀ (c : Instr) (s t : State), positionsInRange s → exec c s = .next t →
    positionsInRange t ∧
      ((∀ a e g, c ≠ .fullReset a e g) → (∀ r, c ≠ .lineReset r) →
        s.pos.flat.fine ≤ t.pos.flat.fine ∧ s.pos.conv.fine ≤ t.pos.conv.fine)

/-- FAULT_LATCHED stays active exactly while a flag is set, and the history keeps at most 16 entries with repeat
counts of 1 to 255 (R212, R213); the completion log keeps at most 32 entries (R85). -/
def Obligations.FaultRecordKept : Prop :=
  (∀ s t : State, faultRecordOk s → step s = .next t → faultRecordOk t) ∧
    ∀ s t : State, logOk s → step s = .next t → logOk t

/-- In HALT and HALTING every speed command stays 0 (R123, R164). -/
def Obligations.HaltedSpeedsKept : Prop :=
  ∀ s t : State, haltedSpeeds s → step s = .next t → haltedSpeeds t

/-- At most one reaction is in PURGE (R186), and each brake command stays the one its stand's role and deactivation
step give (R130). -/
def Obligations.OnePurgeAndBrakesKept : Prop :=
  (∀ s t : State, onePurge s → step s = .next t → onePurge t) ∧
    ∀ s t : State, brakesOk s → step s = .next t → brakesOk t

/-- The tables keep their sizes: 27 signals, 32 slots of 64 entries, 16 classes, 4 zones, 8 reactions and 50
parameters in each image (R169, R19, R89, R93, R182, R1); and every parameter of both images stays in its range (R2,
R3). The 50 ranges and reset values, and when a written word is in range: both ends included, CYCLE_US a whole multiple
of 250 (R3). -/
def Obligations.TablesKept : Prop :=
  (∀ s t : State, tablesSized s → step s = .next t → tablesSized t) ∧
    (∀ s t : State, paramsInRange s → step s = .next t → paramsInRange t) ∧
    ∀ rows : List (Nat × Nat × Nat),
      rows =
        [(250, 4000, 1000), (1, 16777215, 65536), (1, 16777215, 65536), (1, 65535, 1000), (0, 10000, 0),
         (10000, 2000000, 100000), (1000, 1000000, 10000), (500, 50000, 1875), (16, 64, 64), (1, 4, 1)] ++
        [(2, 62, 16), (2, 62, 32), (2, 62, 48), (1, 4000000, 200000), (0, 100000, 0),
         (1000, 100000, 10000), (100, 5000, 5000), (10, 600, 120), (1, 255, 50), (0, 1000, 0)] ++
        [(100, 100000, 10000), (0, 100000, 500), (1, 10000, 100), (1, 10000, 100), (0, 4000000, 0),
         (500, 2500, 2000), (0, 5000, 0), (1, 16777215, 1000), (1, 16777215, 600000), (1, 16777215, 600000)] ++
        [(0, 65535, 10000), (0, 2500, 800), (0, 200000, 30000), (0, 200000, 20000), (0, 200000, 10000),
         (0, 10000, 50), (1, 255, 10), (1, 65535, 10000), (1, 255, 200), (1, 255, 200)] ++
        [(1, 65535, 2000), (1000, 100000, 5000), (0, 4000000, 200000), (1000, 1000000, 20000), (0, 100000, 5000),
         (1, 100000, 2000), (1, 255, 16), (1, 65535, 1000), (0, 1, 0), (0, 1, 0)] →
      paramRanges = rows.map (fun x => (x.1, x.2.1)) ∧ paramResets = rows.map (fun x => x.2.2) ∧
        ∀ (n lo hi res : Nat) (v : Word), 1 ≤ n → rows[n - 1]? = some (lo, hi, res) →
          (paramInRange n v = true ↔ lo ≤ v.toNat ∧ v.toNat ≤ hi ∧ (n = 1 → v.toNat % 250 = 0))

/-- A slot stays LOCKED exactly while its use count is above 0 (R37). -/
def Obligations.SlotsLockedWhileUsedKept : Prop :=
  ∀ s t : State, slotsLockedWhileUsed s → step s = .next t → slotsLockedWhileUsed t

/-- The plan never holds a GAP next to a GAP (R70). -/
def Obligations.AdjacentGapsNeverPlanned : Prop :=
  ∀ s t : State, gapsMerged s → step s = .next t → gapsMerged t

/-- The plan stays ordered and without a break: its first segment begins at the plan origin and every other one where
its predecessor ends, and the segment at the blade stays the newest of the set map (R63, R69, R71, R81). The parameters
are in their ranges, which TablesKept says they stay in. -/
def Obligations.PlanStaysContiguous : Prop :=
  ∀ s t : State, paramsInRange s → planContiguous s → step s = .next t → planContiguous t

/-- The invariants hold right after Full reset. -/
def Obligations.InvariantsHoldAtReset : Prop :=
  positionsInRange State.reset ∧ faultRecordOk State.reset ∧ haltedSpeeds State.reset ∧ onePurge State.reset ∧
    brakesOk State.reset ∧ gapsMerged State.reset ∧ tablesSized State.reset ∧ logOk State.reset ∧
    paramsInRange State.reset ∧ slotsLockedWhileUsed State.reset ∧ planContiguous State.reset

/-! ### What the blocks do in a used cycle frame -/

/-- What an accepted encoder sample does. The fine position less the reverse excess follows the encoder by delta ×
scale; what of an advance the excess absorbs moves nothing, and what is left moves the position, or saturates it where
that is beyond the largest; a saturated one stands while baseline and excess follow on; a position in its range, as
PositionsNeverDecrease keeps it, never falls (R9, R11, R12, R14, R16). The feed's sample judges WEB_REVERSE, each new
episode recording fault 541; a position newly saturated records fault 811 (R13, R16). A count whose signed difference
from a valid baseline exceeds MAX_DELTA × the cycles since baseline is a jump; the first of an episode records fault
641 with the encoder's signal (R9, R10). In a used frame the cycles since baseline grow by the elapsed count, up to
65,535; a fresh count that is no jump is accepted, a jump only opens the episode, and without such a count the encoder
stands (R9, R10, R173, R177); with every reaction disabled and IDLE a position newly saturated has the line enter
HALTING with cause POSITION_RANGE and every speed command 0 (R16, R163, R123). -/
def Obligations.EncodersTracked : Prop :=
  (∀ (scale : Nat) (x y : Encoder) (raw : Word) (n : Nat), y = acceptSample scale x raw →
      n = (countDelta x raw).natAbs * scale →
      (x.valid = false → y = { x with baseline := raw, valid := true, since := 0, jumpOpen := false }) ∧
      (x.valid = true →
        y.baseline = raw ∧ y.valid = true ∧ y.since = 0 ∧ y.jumpOpen = false ∧
          (x.fine ≤ 18446744073709551615 → x.fine ≤ y.fine) ∧
          y.excess =
            (if countDelta x raw < 0 then min 18446744073709551615 (x.excess + n) else x.excess - n) ∧
          (x.saturated = true → y.fine = x.fine ∧ y.saturated = true) ∧
          (x.saturated = false → x.fine + n ≤ 18446744073709551615 → x.excess + n ≤ 18446744073709551615 →
            (y.fine : Int) - y.excess = x.fine - x.excess + countDelta x raw * scale ∧ y.saturated = false) ∧
          (x.saturated = false → x.fine ≤ 18446744073709551615 →
            (countDelta x raw < 0 → y.fine = x.fine ∧ y.saturated = false) ∧
            (0 ≤ countDelta x raw →
              if 18446744073709551615 < x.fine + (n - x.excess) then
                y.fine = 18446744073709551615 ∧ y.saturated = true
              else y.fine = x.fine + (n - x.excess) ∧ y.saturated = false)))) ∧
    (∀ (m e : Nat) (x : Encoder) (raw : Word),
      countDelta x raw = (raw - x.baseline).toInt ∧
        (isJump m x raw = true ↔ x.valid = true ∧ m * x.since < (countDelta x raw).natAbs) ∧
        sinceGrown e x = { x with since := min 65535 (x.since + e) }) ∧
    (∀ (i : Nat) (s t : State) (x : Encoder), i ≤ 1 → t = encoderJump i s →
      x = (if i = 0 then s.pos.flat else s.pos.conv) →
      (x.jumpOpen = true → t = s) ∧
      (x.jumpOpen = false →
        t = { s with
              pos := (if i = 0 then { s.pos with flat := { x with jumpOpen := true } }
                else { s.pos with conv := { x with jumpOpen := true } })
              react := { s.react with marks := t.react.marks }, fault := t.fault } ∧
          t.fault.history.head?.map (fun h => (h.detail, h.subject)) = some (641, .signal i))) ∧
    (∀ (raw : Word) (s t : State) (rev sat : Bool), t = feedAccept raw s →
      rev = decide (s.par 5 * 65536 < t.pos.flat.excess) →
      sat = (t.pos.flat.saturated && !s.pos.flat.saturated) →
      t.pos.flat = acceptSample (s.par 2) s.pos.flat raw ∧ t.cond .webReverse = rev ∧
        t = { s with
              pos := { s.pos with flat := t.pos.flat }, react := { s.react with marks := t.react.marks },
              fault := t.fault } ∧
        (sat = true → t.fault.history.head?.map (fun h => (h.detail, h.subject)) = some (811, .signal 0)) ∧
        (sat = false → rev = true → s.cond .webReverse = false →
          t.fault.history.head?.map (fun h => (h.detail, h.subject)) = some (541, .signal 0)) ∧
        (sat = false → (rev = false ∨ s.cond .webReverse = true) → t.fault = s.fault)) ∧
    (∀ (raw : Word) (s t : State) (sat : Bool), t = convAccept raw s →
      sat = (t.pos.conv.saturated && !s.pos.conv.saturated) →
      t.pos.conv = acceptSample (s.par 3) s.pos.conv raw ∧ t.cond .webReverse = s.cond .webReverse ∧
        (sat = true → t.fault.history.head?.map (fun h => (h.detail, h.subject)) = some (811, .signal 1)) ∧
        (sat = false → t = { s with pos := { s.pos with conv := t.pos.conv } })) ∧
    ∀ (f : CycleFrame) (s t : State) (e : Nat) (brought : Nat → Word → Prop), s.ring.bypass = false → f.wf = true →
      e = elapsedFor s f.cycle → 1 ≤ e → e ≤ 32768 →
      (∀ i v, brought i v ↔
        ∃ k x, (s.entry i).slot = some k ∧ f.slots[k]? = some x ∧ slotDamaged k x = false ∧ x.command = false ∧
          x.nodeKind.toNat = (s.entry i).nodeKind ∧ x.nodeFault = false ∧ (s.entry i).toggle ≠ some x.toggle ∧
          x.value = v) →
      exec (.cycleFrame f) s = .next t →
      (∀ (i : Nat) (u y : Encoder), i ≤ 1 → u = sinceGrown e (if i = 0 then s.pos.flat else s.pos.conv) →
        y = (if i = 0 then t.pos.flat else t.pos.conv) →
        (∀ v, brought i v →
          if isJump (s.par 4) u v = true then
            y = { u with jumpOpen := true } ∧ (u.jumpOpen = false → t.fault.flags.getLsbD 5 = true)
          else y = acceptSample (s.par (2 + i)) u v) ∧
        ((∀ v, ¬ brought i v) → y = u)) ∧
      ((s.pos.flat.saturated = false ∧ t.pos.flat.saturated = true) ∨
          (s.pos.conv.saturated = false ∧ t.pos.conv.saturated = true) →
        reactQuiet s → moving s → t.mode = { mode := .halting, step := 0, cause := .positionRange } ∧ speedsZero t)

/-- SIG's judgement of a mapped sample signal in a used cycle frame. A slot that passes the six tests makes it FRESH;
one that passes tests 1 to 3 stores its toggle and settles the kind-mismatch and node-fault episodes; a slot that is
there, undamaged and of the wrong kind opens a kind mismatch; whatever is not fresh lowers the stale counter, down to
LOST at 0; SIGNAL_LOST and NODE_FAULT follow the records (R172, R173, R174, R175, R176). A mapped command signal's slot
of the right kind and node kind ends its mismatch episode and one of the wrong kind opens one; a missing or a damaged
slot changes nothing (R176). The first mismatch of an episode records fault 631 with the signal, the first NODE_FAULT
fault 621, and the loss fault 611 (R174, R175, R176). -/
def Obligations.SamplesJudged : Prop :=
  (∀ (i : Nat) (s t : State),
    (t = kindMismatch i s →
      if (s.entry i).kindOpen = true then t = s
      else t.sig = (modEntry i (fun g => { g with kindOpen := true }) s).sig ∧
        t.fault.history.head?.map (fun h => (h.detail, h.subject)) = some (631, .signal i)) ∧
    (t = nodeFaulted i s →
      if (s.entry i).nodeOpen = true then t = s
      else t.sig = (modEntry i (fun g => { g with nodeOpen := true }) s).sig ∧
        t.fault.history.head?.map (fun h => (h.detail, h.subject)) = some (621, .signal i)) ∧
    (t = loseSignal i s →
      t.sig = (modEntry i (fun g => { g with stale := 0, state := .lost, lossOpen := true }) s).sig ∧
        t.fault.history.head?.map (fun h => (h.detail, h.subject)) = some (611, .signal i))) ∧
  ∀ (f : CycleFrame) (s t : State) (e : Nat), s.ring.bypass = false → f.wf = true → e = elapsedFor s f.cycle → 1 ≤ e →
    e ≤ 32768 → s.sig.entries.length = 27 → exec (.cycleFrame f) s = .next t →
    (∀ i k g, i ≤ 13 → g = s.entry i → g.slot = some k →
      (∀ (x : Slot) (ok : Bool), f.slots[k]? = some x → slotDamaged k x = false → x.command = false →
        x.nodeKind.toNat = g.nodeKind →
        (ok = true ↔
          x.nodeFault = false ∧ g.toggle ≠ some x.toggle ∧
            (i ≤ 1 → isJump (s.par 4) (sinceGrown e (if i = 0 then s.pos.flat else s.pos.conv)) x.value = false) ∧
            (i = 2 → x.value &&& 0xFFFCFF00 = 0) ∧ (3 ≤ i → i ≤ 6 → x.value.toNat ≤ 3000) ∧
            (i = 7 → x.value.toNat ≤ 10000) ∧ (i = 8 → x.value.toNat ≤ 65535) ∧
            (i = 11 → x.value &&& 0xFFFF0000 = 0) ∧ (9 ≤ i → i ≠ 11 → x.value.toNat ≤ 200000)) →
        t.entry i =
            (if ok = true then
              { g with
                stale := g.staleLimit, state := .fresh, toggle := some x.toggle, lastGood := some x.value,
                lossOpen := false, nodeOpen := false, kindOpen := false }
             else if g.state ≠ .lost ∧ g.stale ≤ 1 then
              { g with
                stale := 0, state := .lost, lossOpen := true, toggle := some x.toggle, nodeOpen := x.nodeFault,
                kindOpen := false }
             else
              { g with
                stale := g.stale - 1, toggle := some x.toggle, nodeOpen := x.nodeFault, kindOpen := false }) ∧
          (x.nodeFault = true → g.nodeOpen = false → t.fault.flags.getLsbD 5 = true)) ∧
      ((f.slots[k]? = none ∨ ∃ x, f.slots[k]? = some x ∧ slotDamaged k x = true) →
        t.entry i =
          if g.state ≠ .lost ∧ g.stale ≤ 1 then { g with stale := 0, state := .lost, lossOpen := true }
          else { g with stale := g.stale - 1 }) ∧
      (∀ x, f.slots[k]? = some x → slotDamaged k x = false → x.command = true ∨ x.nodeKind.toNat ≠ g.nodeKind →
        t.entry i =
            (if g.state ≠ .lost ∧ g.stale ≤ 1 then
              { g with stale := 0, state := .lost, lossOpen := true, kindOpen := true }
             else { g with stale := g.stale - 1, kindOpen := true }) ∧
          (g.kindOpen = false → t.fault.flags.getLsbD 5 = true)) ∧
      ((t.entry i).state = .lost → g.state ≠ .lost → t.fault.flags.getLsbD 5 = true) ∧
      (t.cond .signalLost = true ↔ ∃ j, j ≤ 13 ∧ (t.entry j).state = .lost) ∧
      (t.cond .nodeFault = true ↔ ∃ j, j ≤ 13 ∧ (t.entry j).nodeOpen = true)) ∧
    (∀ i, i ≤ 26 → (s.entry i).slot = none → t.entry i = s.entry i) ∧
    ∀ i k g, 14 ≤ i → i ≤ 26 → g = s.entry i → g.slot = some k →
      (∀ x, f.slots[k]? = some x → slotDamaged k x = false →
        if x.command = true ∧ x.nodeKind.toNat = g.nodeKind then t.entry i = { g with kindOpen := false }
        else t.entry i = { g with kindOpen := true } ∧
          (g.kindOpen = false → t.fault.flags.getLsbD 5 = true)) ∧
      ((f.slots[k]? = none ∨ ∃ x, f.slots[k]? = some x ∧ slotDamaged k x = true) → t.entry i = g)

/-- HEAT's readings in a used cycle frame: a fresh ZONE_TEMP_z of a zone that exists and a fresh BOX_PRESS set their
readings, every other reading stays (R93, R94; a zone above ZONE_COUNT: notes/assumptions/12.md). ZONE_OVER is active
after the frame exactly while a zone reads above ZONE_LIMIT (R101). With every reaction disabled and IDLE, PRESSURE_LOW
follows the fresh sample and the valves (R102). The judgements are made once on all the frame's readings: a new episode
records fault 321 with the lowest zone above the limit, or fault 331; one that goes on or ends records nothing (R94,
R101, R102). That the zones are judged before the pressure, and so the order of faults 321 and 331 of one frame, is the
model's choice (notes/assumptions/31.md). -/
def Obligations.HeatReadingsTaken : Prop :=
  (∀ (f : CycleFrame) (s t : State) (e : Nat) (brought : Nat → Nat → Prop) (above : State → Prop),
      s.ring.bypass = false → f.wf = true → e = elapsedFor s f.cycle → 1 ≤ e → e ≤ 32768 → s.heat.zones.length = 4 →
      (∀ i v, brought i v ↔
        v ≤ (if i = 7 then 10000 else 3000) ∧
          ∃ k x, (s.entry i).slot = some k ∧ f.slots[k]? = some x ∧ slotDamaged k x = false ∧ x.command = false ∧
            x.nodeKind.toNat = (s.entry i).nodeKind ∧ x.nodeFault = false ∧ (s.entry i).toggle ≠ some x.toggle ∧
            x.value.toNat = v) →
      (∀ u, above u ↔ ∃ z v, 1 ≤ z ∧ z ≤ u.par 10 ∧ u.zone z = some v ∧ u.par 26 < v) →
      exec (.cycleFrame f) s = .next t →
      (∀ z, 1 ≤ z → z ≤ 4 →
        (∀ v, z ≤ s.par 10 → brought (2 + z) v → t.zone z = some v) ∧
          (s.par 10 < z ∨ (∀ v, ¬ brought (2 + z) v) → t.zone z = s.zone z)) ∧
        (∀ v, brought 7 v → t.heat.press = some v) ∧ ((∀ v, ¬ brought 7 v) → t.heat.press = s.heat.press) ∧
        ((s.cond .zoneOver = true ↔ above s) →
          (t.cond .zoneOver = true ↔ above t) ∧
            (s.cond .zoneOver = false → above t → t.fault.flags.getLsbD 2 = true)) ∧
        (reactQuiet s →
          (∀ v, brought 7 v →
            t.cond .pressureLow = (decide (v < s.par 27) && s.heat.steam && decide (1 ≤ s.par 10))) ∧
          ((∀ v, ¬ brought 7 v) →
            t.cond .pressureLow = (s.cond .pressureLow && s.heat.steam && decide (1 ≤ s.par 10))))) ∧
    (∀ (old s t : State), t = heatJudges none old s →
      (s.heat.zones = old.heat.zones → t = s) ∧
      (s.heat.zones ≠ old.heat.zones →
        (∀ z v, 1 ≤ z → z ≤ s.par 10 → s.zone z = some v → s.par 26 < v →
          (∀ y w, 1 ≤ y → y < z → s.zone y = some w → w ≤ s.par 26) →
          t.cond .zoneOver = true ∧
            (s.cond .zoneOver = true → t = s) ∧
            (s.cond .zoneOver = false →
              t.fault.history.head?.map (fun h => (h.detail, h.subject)) = some (321, .signal (2 + z)))) ∧
        ((∀ z v, 1 ≤ z → z ≤ s.par 10 → s.zone z = some v → v ≤ s.par 26) →
          t.cond .zoneOver = false ∧ t.fault = s.fault))) ∧
    (∀ (v : Nat) (old s : State), heatJudges (some v) old s = judgePress v (heatJudges none old s)) ∧
    ∀ (v : Nat) (s t : State), t = judgePress v s →
      (t.cond .pressureLow = true ↔
        v < s.par 27 ∧ ∃ z, 1 ≤ z ∧ z ≤ s.par 10 ∧ (zoneCommand s z).2 = true) ∧
        (t.cond .pressureLow = true → s.cond .pressureLow = false →
          t.fault.history.head?.map (fun h => (h.detail, h.subject)) = some (331, .signal 7)) ∧
        (t.cond .pressureLow = false ∨ s.cond .pressureLow = true → t.fault = s.fault)

/-- ROLL's stand samples in a used cycle frame: fresh speeds and diameters set the readings, but for a diameter above
the ACTIVE stand's; all of them are taken before a rule of ROLL acts on the frame, so that an incoming stand gone in
that frame is removed with fault 461 whatever reaction the frame brings about (R128, R149, R150). On the readings so
taken: removal in PREPARE, PASTE and CUT, the hold cleared by a roll taken off, the derived roles formed afresh, and
WEB_END with fault 471 (R129, R132, R134, R149; each change counts as a removal: notes/assumptions/23.md). -/
def Obligations.StandSamplesTaken : Prop :=
  (∀ (f : CycleFrame) (s t : State) (e : Nat) (brought : Nat → Nat → Prop), s.ring.bypass = false → f.wf = true →
      e = elapsedFor s f.cycle → 1 ≤ e → e ≤ 32768 → s.sig.entries.length = 27 →
      (∀ i v, brought i v ↔
        v ≤ 200000 ∧
          ∃ k x, (s.entry i).slot = some k ∧ f.slots[k]? = some x ∧ slotDamaged k x = false ∧ x.command = false ∧
            x.nodeKind.toNat = (s.entry i).nodeKind ∧ x.nodeFault = false ∧ (s.entry i).toggle ≠ some x.toggle ∧
            x.value.toNat = v) →
      exec (.cycleFrame f) s = .next t →
      ∀ (x : Stand) (d v : Nat), d = (match x with | .a => 12 | .b => 13) → v = (match x with | .a => 9 | .b => 10) →
        (∀ n, brought v n → (t.stand x).speed = some n) ∧
        ((∀ n, ¬ brought v n) → (t.stand x).speed = (s.stand x).speed) ∧
        ((∀ n, ¬ brought d n) → (t.stand x).diam = (s.stand x).diam) ∧
        (s.roll.state ≠ .prepare ∨ s.roll.incoming ≠ some x ∨ (s.stand x).role ≠ some .active → ∀ n, brought d n →
          (t.stand x).diam =
            (match (s.stand x).diam with
             | some old => if (s.stand x).role = some .active ∧ old < n then some old else some n
             | none => some n)) ∧
        (reactAtRest s → s.purgeActive = false → s.roll.incoming = some x → (s.stand x).role = some .incoming →
          (brought d 0 ∧ (s.stand x).diam ≠ some 0) ∨ ((t.entry d).state = .lost ∧ (s.entry d).state ≠ .lost) →
          (s.roll.state = .prepare → s.roll.pasteFlight = false → s.roll.cutFlight = false →
            t.roll.state = .idle ∧ t.roll.hold = true ∧ t.roll.winStatus = .none ∧ t.cond .spliceFailed = true ∧
              t.fault.flags.getLsbD 3 = true ∧ (t.stand x).role = some .stopping ∧ (t.stand x).step = 1 ∧
              (t.stand x).steps = 3) ∧
          (s.roll.state = .paste ∨ s.roll.state = .cut →
            t.roll.failed = true ∧ t.roll.hold = true ∧ t.cond .spliceFailed = true ∧
              t.fault.flags.getLsbD 3 = true))) ∧
    ∀ (old s t : State) (a b : Option Nat) (changed gone atRisk : Stand → Prop) (off : Prop),
      t = standsJudge a b old s →
      (∀ x, changed x ↔ (s.stand x).diam ≠ (old.stand x).diam ∨
        (s.entry (match x with | .a => 12 | .b => 13)).state ≠ (old.entry (match x with | .a => 12 | .b => 13)).state) →
      (∀ x, gone x ↔ ((s.stand x).diam = some 0 ∧ (old.stand x).diam ≠ some 0) ∨
        ((s.entry (match x with | .a => 12 | .b => 13)).state = .lost ∧
          (old.entry (match x with | .a => 12 | .b => 13)).state ≠ .lost)) →
      (∀ x, atRisk x ↔
        s.roll.incoming = some x ∧ (s.roll.state = .prepare ∨ s.roll.state = .paste ∨ s.roll.state = .cut)) →
      (off ↔ ∃ x, (match x with | .a => a | .b => b) = some 0 ∧ (s.stand x).role ≠ some .active ∧ ¬ atRisk x) →
      (∀ x, ¬(gone x ∧ atRisk x ∧ s.roll.state = .prepare) →
        (¬(changed x ∧ givenRole (s.stand x).role = false) → t.stand x = s.stand x) ∧
          (changed x → givenRole (s.stand x).role = false →
            t.stand x =
              { s.stand x with
                role :=
                  (match (s.stand x).diam with
                   | none => none
                   | some d =>
                     if (s.entry (match x with | .a => 12 | .b => 13)).state = .lost then some .notReady
                     else if d = 0 then some .absent else if s.par 33 < d then some .ready else some .notReady)
                step := 0, steps := 0, brake := true })) ∧
      (∀ x, gone x → atRisk x →
        t.roll.hold = true ∧ t.cond .spliceFailed = true ∧ t.fault.flags.getLsbD 3 = true ∧
          (s.roll.state = .prepare →
            t.roll.state = .idle ∧ t.roll.winStatus = .none ∧ (t.stand x).role = some .stopping ∧
              (t.stand x).step = 1 ∧ (t.stand x).steps = 3) ∧
          (s.roll.state ≠ .prepare → t.roll.state = s.roll.state ∧ t.roll.failed = true)) ∧
      ((∀ x, ¬(gone x ∧ atRisk x)) →
        (off → t.roll.hold = false ∧ t.roll.missCount = 0) ∧
        (¬ off → t.roll.hold = s.roll.hold ∧ t.roll.missCount = s.roll.missCount) ∧ t.roll.state = s.roll.state ∧
        (∀ ended : Bool,
          (ended = true ↔ ∃ x, s.activeStand = some x ∧
            ((∃ d, (s.stand x).diam = some d ∧ d ≤ s.par 35) ∨
              (s.entry (match x with | .a => 12 | .b => 13)).state = .lost)) →
          ((∃ x, changed x) → t.cond .webEnd = ended) ∧ ((∀ x, ¬ changed x) → t.cond .webEnd = s.cond .webEnd) ∧
            ((∃ x, changed x) → ended = true → s.cond .webEnd = false → ∀ x, s.activeStand = some x →
              t.fault.history.head?.map (fun h => (h.detail, h.subject)) = some (471, .stand x)) ∧
            ((∀ x, ¬ changed x) ∨ ended = false ∨ s.cond .webEnd = true → t.fault = s.fault)))

/-- GOV's computation: the target is the smallest of the limits in force and the cause the first equal to it in the
order MODE, REACTION, SPLICE, DWELL, STROKE, REQUEST; the conveyor command rises by ACCEL_STEP and falls by DECEL_STEP
a cycle, up to or down to the target, and is lowered to the request limit; the feed is the conveyor by the RATIO of
the WALKING panel's slot, or by 65,536, at most 200,000; the stand speeds follow the roles (R121, R122, R124,
R125). -/
def Obligations.GovernedSpeeds : Prop :=
  ∀ (speed : Word) (e : Nat) (s t : State), t = govern speed e s →
    (∀ l ∈ [t.gov.limits.request, t.gov.limits.dwell, t.gov.limits.stroke, t.gov.limits.splice, t.gov.limits.mode,
        t.gov.limits.reaction], ∀ n, l = some n → t.gov.target ≤ n) ∧
    (∃ l ∈ [t.gov.limits.request, t.gov.limits.dwell, t.gov.limits.stroke, t.gov.limits.splice, t.gov.limits.mode,
        t.gov.limits.reaction], l = some t.gov.target) ∧
    t.gov.cause =
      (if t.gov.limits.mode = some t.gov.target then .mode
       else if t.gov.limits.reaction = some t.gov.target then .reaction
       else if t.gov.limits.splice = some t.gov.target then .splice
       else if t.gov.limits.dwell = some t.gov.target then .dwell
       else if t.gov.limits.stroke = some t.gov.target then .stroke else .request) ∧
    (s.gov.conv < t.gov.target → t.gov.conv = min t.gov.target (s.gov.conv + s.par 23 * e)) ∧
    (t.gov.target < s.gov.conv →
      t.gov.conv =
        min (min speed.toInt.toNat (s.par 21)) (max t.gov.target (s.gov.conv - s.par 24 * e))) ∧
    (t.gov.target = s.gov.conv → t.gov.conv = s.gov.conv) ∧
    t.gov.ratio =
      (match s.fold.seg.bind (·.walk), s.fold.seg.bind (fun g => panelOf g.kind) with
       | some w, some id =>
         if w.status = .walking then ((s.slot id.slot).totals.map (·.ratio)).getD 0 else 65536
       | _, _ => 65536) ∧
    t.gov.feed = min 200000 (t.gov.conv * t.gov.ratio / 65536) ∧
    (t.gov.saturated = true ↔ 200000 < t.gov.conv * t.gov.ratio / 65536) ∧
    (t.gov.standA = if s.roll.standA.role = some .active ∨ s.roll.standA.role = some .incoming then t.gov.feed else 0) ∧
    (t.gov.standB = if s.roll.standB.role = some .active ∨ s.roll.standB.role = some .incoming then t.gov.feed else 0) ∧
    t = { s with gov := t.gov }

/-- The six limits of GOV's computation: the request clamped to LINE_MAX; the smallest dwell figure over the governed
panels; the smallest stroke figure over the WALKING panel and the plan's within HORIZON; the splice and mode limits;
and the smallest numeric SPEED_CAP of the reactions not IDLE (R115, R116, R117, R118, R119, R120). -/
def Obligations.SpeedLimitsFormed : Prop :=
  ∀ (speed : Word) (e : Nat) (s : State) (l : Limits), l = (govern speed e s).gov.limits →
    l.request = some (min speed.toInt.toNat (s.par 21)) ∧
    (govern speed e s).gov.request = speed.toInt.toNat ∧
    (∀ governed : PanelId → Prop,
      (∀ id, governed id ↔
        (∃ r ∈ s.plan.setMap, r.kind = .panel id ∧
          ((∃ g, s.fold.seg = some g ∧ g.serial = r.serial) ∨
            (s.setPos : Int) - ((r.head : Int) + r.outLen) ≤ ((s.par 7 + s.par 9 * s.par 8 : Nat) : Int))) ∨
        ∃ g ∈ s.plan.segs, g.kind = .panel id ∧ g.start ≤ s.pBlade + s.par 25) →
      (l.dwell = none ↔ ∀ id, ¬ governed id) ∧
        ∀ n, l.dwell = some n →
          (∃ id, governed id ∧ n = s.par 9 * s.par 8 * 1000 / (s.cls id.cls).targetDwell) ∧
          ∀ id, governed id → n ≤ s.par 9 * s.par 8 * 1000 / (s.cls id.cls).targetDwell) ∧
    (∀ stroking : PanelId → Prop,
      (∀ id, stroking id ↔
        (∃ g w, s.fold.seg = some g ∧ g.kind = .panel id ∧ g.walk = some w ∧ w.status = .walking) ∨
        ∃ g ∈ s.plan.segs, g.kind = .panel id ∧ g.start ≤ s.pBlade + s.par 25) →
      (l.stroke = none ↔ ∀ id, ¬ stroking id) ∧
        ∀ n, l.stroke = some n →
          (∃ id, stroking id ∧ n = s.par 18 * slotTotal (·.pMin) (s.slot id.slot) / 60) ∧
          ∀ id, stroking id → n ≤ s.par 18 * slotTotal (·.pMin) (s.slot id.slot) / 60) ∧
    l.splice = (if s.roll.state = .idle ∨ s.roll.state = .armed then none else some (s.par 46)) ∧
    l.mode =
      (match s.mode.mode with
       | .halt => some 0 | .halting => some 0 | .hold => some 0 | .thread => some (s.par 22)
       | .warmup => some (s.par 22) | .run => none | .drain => none) ∧
    (l.reaction = none ↔ ∀ p ∈ s.react.entries, p.state = .idle ∨ p.speedCap = none) ∧
    ∀ n, l.reaction = some n →
      (∃ p ∈ s.react.entries, p.state ≠ .idle ∧ p.speedCap = some n) ∧
      ∀ p ∈ s.react.entries, ∀ m, p.state ≠ .idle → p.speedCap = some m → n ≤ m

/-- The replan: the smallest flat start at or after a cursor that overlaps no anchored record; every anchored record
keeps its place; the movable records, in their order and with their lengths, each stand at that start, the cursor
moving to the end of the record just placed (R69). Merging leaves no GAP next to a GAP, keeps the whole length, every
other record, and the serial and flat start of the first (R70). -/
def Obligations.ReplanPlacesMovable : Prop :=
  (∀ (anchored : List Seg) (cursor len : Nat), 0 < len → (∀ a ∈ anchored, 0 < a.len) →
      anchored.Pairwise (fun a b => segEnd a ≤ b.start) →
      ∃ x, placeStart anchored cursor len = x ∧ cursor ≤ x ∧
        (∀ a ∈ anchored, x + len ≤ a.start ∨ segEnd a ≤ x) ∧
        ∀ y, cursor ≤ y → y < x → ∃ a ∈ anchored, a.start < y + len ∧ y < segEnd a) ∧
    (∀ segs : List Seg,
      (∀ i g h, (mergeGaps segs)[i]? = some g → (mergeGaps segs)[i + 1]? = some h →
          ¬(g.kind = .gap ∧ h.kind = .gap)) ∧
        ((mergeGaps segs).map (·.len)).sum = (segs.map (·.len)).sum ∧
        (mergeGaps segs).filter (fun g => g.kind != .gap) = segs.filter (fun g => g.kind != .gap) ∧
        (mergeGaps segs).head?.map (fun g => (g.serial, g.start)) = segs.head?.map fun g => (g.serial, g.start)) ∧
    ∀ s : State,
      (∀ g ∈ s.plan.segs, g.anchored = true → g.kind ≠ .gap → g ∈ (replan s).plan.segs) ∧
        (∃ starts : List Nat, starts.length = s.movable.length ∧
          ∀ i g, s.movable[i]? = some g →
            ∃ x, starts[i]? = some x ∧
              x = placeStart s.anchored
                (match (if i = 0 then none else starts[i - 1]?), s.movable[i - 1]? with
                 | some y, some h => y + h.len
                 | _, _ => s.planOrigin) g.len ∧
              (g.kind ≠ .gap → { g with start := x } ∈ (replan s).plan.segs)) ∧
        (∀ g ∈ (replan s).plan.segs, g.kind ≠ .gap →
          ∃ h ∈ s.plan.segs, h.serial = g.serial ∧ h.kind = g.kind ∧ h.len = g.len) ∧
        replan s = { s with plan := { s.plan with segs := (replan s).plan.segs, counter := (replan s).plan.counter } }

/-- A splice record taken, for a splice extent wholly at the blade or wholly in the plan: at the blade it marks a
PANEL, with fault 481, and makes any other segment of kind SPLICE; in a committed WINDOW it is cut out of the WINDOW
and nothing moves; elsewhere in the plan anchored SPLICE records cover it, and no PANEL there is rejected (R76, R77,
R78). A panel so marked is remade where no remake was decided before, its remake number allows it and the plan with
the remake holds at most 28 segments; the remake is placed behind a first movable GAP, or behind a GAP of PANEL_GAP as
the first movable segment, with the separation to the PANEL that follows (R79; which PANEL follows:
notes/assumptions/35.md). -/
def Obligations.SplicesTaken : Prop :=
  (∀ (s t : State) (a b : Nat), t = spliceRecord a s → b = a + s.par 42 → 0 < s.par 42 →
      (∀ g id r, a < s.planOrigin → b ≤ s.planOrigin → s.fold.seg = some g → g.kind = .panel id →
        s.findRec g.serial = some r →
        ∃ q, t.findRec g.serial = some q ∧ q.splice = true ∧ q.rejects = r.rejects ||| 16#8 ∧
          (r.rejects = 0 → r.first = none → q.first = some .splice) ∧ t.fold = s.fold ∧
          t.fault.flags.getLsbD 3 = true ∧
          (r.disposition ≠ .none → q.disposition = r.disposition ∧ t.plan.segs = s.plan.segs) ∧
          (r.disposition = .none → 2 ≤ id.remake →
            q.disposition = .remakeLimit ∧ t.plan.segs = s.plan.segs ∧ t.fault.flags.getLsbD 1 = true ∧
              t.heat = s.heat ∧ t.pat = s.pat) ∧
          (r.disposition = .none → id.remake < 2 → ∀ m id', id' = { id with remake := id.remake + 1 } →
            m = remakeOrder id' s →
            if (replanWith m.1 s.anchored m.2).plan.segs.length ≤ 28 then
              q.disposition = .remade ∧ t.plan.segs = (replanWith m.1 s.anchored m.2).plan.segs ∧
              (∃ h ∈ t.plan.segs, h.kind = .panel id' ∧ h.len = slotTotal (·.f) (s.slot id.slot) ∧ h.anchored = false) ∧
                (id.slot < s.pat.length → (t.slot id.slot).useCount = (s.slot id.slot).useCount + 1) ∧
                (id.cls < s.heat.classes.length → (t.cls id.cls).useCount = (s.cls id.cls).useCount + 1)
            else
              q.disposition = .planFull ∧ t.plan.segs = s.plan.segs ∧ t.fault.flags.getLsbD 1 = true ∧
                t.heat = s.heat ∧ t.pat = s.pat)) ∧
      (∀ g r, a < s.planOrigin → b ≤ s.planOrigin → s.fold.seg = some g → isPanel g.kind = false →
        s.findRec g.serial = some r →
        t.fold = { s.fold with seg := some { g with kind := .splice } } ∧
          t.findRec g.serial = some { r with kind := .splice, splice := true } ∧ t.plan.segs = s.plan.segs ∧
          t.fault = s.fault) ∧
      (∀ w, s.planOrigin ≤ a → s.committedWindow = some w → w.start ≤ a → b ≤ segEnd w → s.plan.segs.length ≤ 30 →
        s.plan.segs.Pairwise (fun g h => g.serial ≠ h.serial) →
        (∃ g ∈ t.plan.segs, g.kind = .splice ∧ g.anchored = true ∧ g.start = a ∧ g.len = s.par 42) ∧ w ∉ t.plan.segs ∧
          (∀ g ∈ s.plan.segs, g ≠ w → g.kind ≠ .gap → g ∈ t.plan.segs) ∧ t.plan.setMap = s.plan.setMap ∧
          t.fault = s.fault ∧ t.fold = s.fold) ∧
      (s.planOrigin ≤ a → s.committedWindow = none → s.plan.segs.Pairwise (fun g h => segEnd g ≤ h.start) →
        (∀ g ∈ s.plan.segs, 0 < g.len ∧ (g.kind = .splice → g.anchored = true)) →
        (∀ x, a ≤ x → x < b →
          ∃ g ∈ t.plan.segs, g.kind = .splice ∧ g.anchored = true ∧ g.start ≤ x ∧ x < segEnd g) ∧
          t.plan.setMap = s.plan.setMap ∧ t.fold = s.fold ∧
          (∀ g ∈ t.plan.segs, ∀ id, g.kind = .panel id →
            ∃ h ∈ s.plan.segs, h.kind = g.kind ∧ h.serial = g.serial ∧ h.len = g.len))) ∧
    ∀ (id : PanelId) (s : State) (gap : Nat → List (SegKind × Nat)) (head : List (SegKind × Nat)) (rest : List Seg),
      (∀ n, gap n = if n = 0 then [] else [(.gap, n)]) →
      (head, rest) =
        (match s.movable with
         | g :: u => if g.kind = .gap then ([(g.kind, g.len)], u) else (gap (s.par 15), g :: u)
         | [] => (gap (s.par 15), [])) →
      (remakeOrder id s).1.map (fun g => (g.kind, g.len)) =
        head ++ (.panel id, slotTotal (·.f) (s.slot id.slot)) ::
          (gap (match rest.findSome? fun g => panelOf g.kind with | some q => separation s id.cls q.cls | none => 0) ++
            rest.map fun g => (g.kind, g.len))

/-- The hand-over test. Its step in each row of R71's table: it stops; takes the first plan segment, a PANEL in RUN
alone; floats a PANEL out of RUN (R72); or appends and takes an IDLE_GAP (R73). What it takes becomes the segment at
the blade and enters the set map, a PANEL with its walk begun and PLAN_EMPTY inactive, a non-PANEL by itself or merged
into a newest record that is no PANEL (R41, R42, R75, R81). With the table SET the test repeats its steps until none is
to be made; in another state it is not made (R71); a window that it takes is told to ROLL (R75, R138). Outside RUN it
brings no PANEL to the blade. StrokeIssued says what the walk so begun is. The model's choices are that ROLL is told,
and asks for a new window, at the end of the test (notes/assumptions/19.md), and what a record that is no PANEL holds
in the fields of a PANEL (notes/assumptions/42.md). -/
def Obligations.SegmentsHandedOver : Prop :=
  (∀ (s : State) (g : BladeSeg), s.mode.mode ≠ .run → (handOver s).fold.seg = some g → isPanel g.kind = true →
      s.fold.seg = some g) ∧
    (∀ s : State, s.bladeDone = false → handStep s = none) ∧
    (∀ (s : State) (g : Seg) (rest : List Seg) (fresh : SegKind → Nat → SetRec), s.bladeDone = true →
      s.plan.segs = g :: rest →
      (∀ kind outLen, fresh kind outLen =
        { serial := g.serial, kind := kind, start := g.start, len := g.len,
          head := (match s.plan.setMap.getLast? with | some l => l.head + l.outLen | none => s.setPos),
          outLen := outLen, splice := decide (kind = .splice), first := none, firstHeat := none, rejects := 0, folds := 0,
          maxLate := 0, disposition := .none, cells := 0, minAge := none, maxAge := none, maxExposure := 0,
          verdict := none }) →
      (s.pBlade < g.start → handStep s = none) ∧
      (∀ id, g.kind = .panel id → g.start ≤ s.pBlade →
        (s.mode.mode = .run →
          ∃ t w, handStep s = some t ∧
            t = { s with
                  plan := { s.plan with
                            segs := rest
                            setMap := s.plan.setMap ++ [fresh g.kind (slotTotal (·.o) (s.slot id.slot))] }
                  fold := { s.fold with
                            seg := some { serial := g.serial, kind := g.kind, start := g.start, len := g.len,
                                          walk := some w } }
                  react := { s.react with marks := t.react.marks } } ∧
            t.cond .planEmpty = false ∧ w.status = .walking ∧ w.slot = id.slot ∧
            w.n = slotTotal (·.n) (s.slot id.slot) ∧ w.k = 0 ∧ w.folds = 0 ∧ w.maxLate = 0 ∧ w.flatDone = 0 ∧
            w.outDone = 0 ∧ w = startWalk (s.slot id.slot) id.slot g.start) ∧
        (s.mode.mode ≠ .run → g.start = s.pBlade → handStep s = none) ∧
        (s.mode.mode ≠ .run → g.start < s.pBlade → planContiguous s → paramsInRange s → s.plan.segs.length ≤ 15 →
          ∃ t b, handStep s = some t ∧
            t.planOrigin =
              (match s.plan.segs.find? (·.anchored) with | some a => min s.pBlade a.start | none => s.pBlade) ∧
            t.fold.seg = some b ∧ (b.kind = .gap ∨ b.kind = .splice) ∧
            (∃ h ∈ t.plan.segs, h.serial = g.serial ∧ h.kind = g.kind ∧ h.len = g.len ∧ t.planOrigin ≤ h.start) ∧
            (∀ h ∈ s.plan.segs, h.anchored = true → h ∈ t.plan.segs) ∧ t.react = s.react ∧ t.fault = s.fault ∧
            t.pat = s.pat)) ∧
      (isPanel g.kind = false → g.start ≤ s.pBlade → ∀ (r own : SetRec) (older : List SetRec),
        own = fresh (if g.kind = .splice then .splice else .gap) g.len →
        (r, older) =
          (match s.plan.setMap.getLast? with
           | some l =>
             if isPanel l.kind = true then (own, s.plan.setMap)
             else
               ({ l with
                  len := l.len + g.len, outLen := l.outLen + g.len, kind := if g.kind = .splice then .splice else l.kind
                  splice := l.splice || decide (g.kind = .splice) }, s.plan.setMap.dropLast)
           | none => (own, [])) →
        handStep s =
          some
            { s with
              plan := { s.plan with segs := rest, setMap := older ++ [r] }
              fold := { s.fold with
                        seg := some { serial := r.serial, kind := r.kind, start := r.start, len := r.len,
                                      walk := none } } })) ∧
    (∀ s : State, s.bladeDone = true → s.plan.segs = [] →
      (s.pBlade < s.planEnd → handStep s = none) ∧
      (s.planEnd ≤ s.pBlade → planContiguous s →
        ∃ t g, handStep s = some t ∧ t.plan.segs = [] ∧ t.planOrigin = s.planOrigin + s.par 16 ∧ t.fold.seg = some g ∧
          isPanel g.kind = false ∧ t.fault = s.fault ∧
          t.cond .planEmpty = (if s.mode.mode = .run then true else s.cond .planEmpty))) ∧
    (∀ s : State, s.table.state ≠ .set → handOver s = s) ∧
    (∀ s : State, s.table.state = .set → planContiguous s → paramsInRange s → (∀ g ∈ s.plan.segs, 0 < g.len) →
      ∃ (us : List State) (u : State), us[0]? = some s ∧ us.getLast? = some u ∧
        (∀ i a b, us[i]? = some a → us[i + 1]? = some b → handStep a = some b) ∧ handStep u = none ∧
        handOver s = windowPassed u) ∧
    ∀ s : State,
      if s.roll.state = .armed ∧ s.roll.winStatus = .reserved ∧ (∀ g ∈ s.plan.segs, g.kind ≠ .window) then
        ((windowPassed s).roll.winStatus = .reserved ∨ (windowPassed s).roll.winStatus = .pending) ∧
          (windowPassed s).roll.state = .armed ∧ (windowPassed s).roll.missCount = s.roll.missCount ∧
          (windowPassed s).fault = s.fault
      else windowPassed s = s

/-- The issue test: a due fold's stroke takes one more than the serial carried before, the fold's direction, depth and
LAST, and is in flight at age 0; the walk moves on; the panel's set-map record counts the fold and its lateness;
lateness above LATE_WU marks the record REJECT_STROKE, records fault 511 with the order id and makes BLADE_OVERRUN
active. Where one of the five conditions fails, nothing changes (R47, R48, R49, R50, R40). In a used cycle frame the
serial carried before is the held serial that the frame found, whatever its own BLADE_STATE sample makes of the held
serial, so that a resynchronisation in that frame leaves the new stroke's serial as it is (R48; that this serial counts
as carried also where no frame brought BLADE_CMD out: notes/assumptions/39.md). The walk of a pattern: it begins with
every offset and count 0; the cursor passes SPACEs and the repeats of groups item by item, and where it comes to stand
on a fold it forms the pending fold, with ordinal, direction, depth, pitch, fire position B + base + p and LAST; when
it leaves a fold the offsets grow, and it goes to the RAMP's next fold or on past the entry, or the walk has ENDED with
the LAST fold (R42, R43, R44, R55). The items it passes to one fold are said up to 33,554,432, more than a closed slot
can bring. -/
def Obligations.StrokeIssued : Prop :=
  (∀ (carried : Serial8) (s t : State) (g : BladeSeg) (w : Walk) (f : PendingFold) (late : Nat),
      t = issueTest carried s → s.fold.seg = some g → g.walk = some w → w.pending = some f →
      late = s.pBlade - f.fire → w.status = .walking → f.fire ≤ s.pBlade → s.fold.stroke = none →
      s.fold.synced = true → s.fold.status = some .ready →
      s.mode.mode = .run ∨ s.mode.mode = .hold ∨ s.mode.mode = .drain →
      t.fold.held = carried + 1 ∧ t.fold.heldDir = f.dir ∧ t.fold.heldDepth = f.depth ∧
        t.fold.heldLast = f.last ∧
        t.fold.stroke = some { serial := carried + 1, panel := g.serial, age := 0 } ∧
        (∃ v, t.walk = some v ∧ v.folds = w.folds + 1 ∧ v.k = w.k + 1 ∧ v.maxLate = max w.maxLate late ∧
          v.flatDone = w.base + f.pitch + 2 * f.depth ∧ v.outDone = w.out + f.pitch ∧
          (v.status = if f.last then .ended else .walking) ∧
          v = leaveFold (closedEntries (s.slot w.slot)) g.start f
            { w with folds := w.folds + 1, maxLate := max w.maxLate late }) ∧
        (∀ r, s.findRec g.serial = some r →
          t.findRec g.serial =
            some
              { r with
                folds := r.folds + 1, maxLate := max r.maxLate late
                rejects := if s.par 20 < late then r.rejects ||| 32#8 else r.rejects
                first := if s.par 20 < late ∧ r.rejects.getLsbD 5 = false then r.first.or (some .stroke)
                  else r.first }) ∧
        t.cond .bladeOverrun = decide (s.par 20 < late) ∧ (late ≤ s.par 20 → t.fault = s.fault) ∧
        (s.par 20 < late → t.fault.flags.getLsbD 4 = true ∧
          ∀ id, g.kind = .panel id →
            t.fault.history.head?.map (fun h => (h.detail, h.subject)) = some (511, .order id.order))) ∧
    (∀ (p : PatSlot) (slot b : Nat) (es : List Entry),
      es = (p.entries.take (p.entryCount.getD 0)).filterMap decodeEntry →
      closedEntries p = es ∧
        startWalk p slot b =
          advanceCursor es b 33554432
            { slot := slot, n := slotTotal (·.n) p, status := .walking, entry := 0, stack := [], ramp := 0, k := 0,
              base := 0, out := 0, folds := 0, maxLate := 0, flatDone := 0, outDone := 0, pending := none }) ∧
    (∀ (es : List Entry) (b : Nat) (f : PendingFold) (w v on next : Walk),
      v = { w with
            base := w.base + f.pitch + 2 * f.depth, out := w.out + f.pitch,
            flatDone := w.base + f.pitch + 2 * f.depth, outDone := w.out + f.pitch, k := w.k + 1, pending := none } →
      on = { v with ramp := w.ramp + 1 } → next = { v with ramp := 0, entry := w.entry + 1 } →
      leaveFold es b f w =
        if f.last = true then { v with status := .ended }
        else
          advanceCursor es b 33554432
            (match es[w.entry]? with
             | some (.ramp _ n _ _ _) => if w.ramp + 1 < n then on else next
             | _ => next)) ∧
    (∀ (es : List Entry) (b : Nat) (ws : List Walk) (w u : Walk) (passes : Walk → Walk → Prop)
        (stands : Dir → Nat → Nat → Prop),
      (∀ x y, passes x y ↔
        (∃ len, es[x.entry]? = some (.space len) ∧
          y = { x with base := x.base + len, out := x.out + len, entry := x.entry + 1 }) ∨
        (∃ r, es[x.entry]? = some (.groupBegin r) ∧
          y = { x with stack := { begin := x.entry, left := r - 1 } :: x.stack, entry := x.entry + 1 }) ∨
        ∃ g rest, es[x.entry]? = some .groupEnd ∧ x.stack = g :: rest ∧
          y = if 0 < g.left then { x with stack := { g with left := g.left - 1 } :: rest, entry := g.begin + 1 }
            else { x with stack := rest, entry := x.entry + 1 }) →
      (∀ dir p d, stands dir p d ↔
        es[u.entry]? = some (.fold dir p d) ∨
          ∃ way n d0 d1, es[u.entry]? = some (.ramp way n p d0 d1) ∧ d = rampDepth n d0 d1 u.ramp ∧
            dir = (match way with | some x => x | none => if u.ramp % 2 = 0 then .left else .right)) →
      ws[0]? = some w → ws.getLast? = some u →
      (∀ (i : Nat) (x y : Walk), ws[i]? = some x → ws[i + 1]? = some y → passes x y) → ws.length ≤ 33554432 →
      ∀ dir p d, stands dir p d →
        advanceCursor es b 33554432 w =
          { u with
            pending := some { k := u.k, dir := dir, depth := d, pitch := p, fire := b + u.base + p,
                              last := decide (u.k + 1 = u.n) } }) ∧
    (∀ (carried : Serial8) (s : State),
      s.walking = false ∨ (∃ w f, s.walk = some w ∧ w.pending = some f ∧ s.pBlade < f.fire) ∨
        s.fold.stroke ≠ none ∨ s.fold.synced = false ∨ s.fold.status ≠ some .ready ∨
        (s.mode.mode ≠ .run ∧ s.mode.mode ≠ .hold ∧ s.mode.mode ≠ .drain) →
      issueTest carried s = s) ∧
    ∀ (f : CycleFrame) (s t : State) (e : Nat), s.ring.bypass = false → f.wf = true → e = elapsedFor s f.cycle →
      1 ≤ e → e ≤ 32768 → exec (.cycleFrame f) s = .next t →
      ∀ x, t.fold.stroke = some x → x.age = 0 →
        x.serial = s.fold.held + 1 ∧ t.fold.held = x.serial

/-- However far the web moves, the cell line keeps its number of cells and the accumulator stays below CELL_LEN; an
advance makes one shift for each CELL_LEN that accumulator and advance hold, the j-th at its own position, each on what
the one before it left, and the verdicts are judged after them (R95, R97, R99). A shift takes the last cell out at the
exit, moves every other cell one index towards it and forms cell 0, owned by the PANEL whose set extent contains the
entry point, whose count of cells it raises by one; the exit's own effects on the record are ExitsJudged's (R97).
Aging adds the elapsed count to every owned cell's age, and to its exposure where a zone of the cell reads outside the
owner's band; OVERDWELL follows the ages (R96, R100). The cells of each zone (R93). -/
def Obligations.CellsAgedAndShifted : Prop :=
  (∀ (before adv : Nat) (s : State),
      (heatAdvance before adv s).heat.cells.length = s.heat.cells.length ∧
        (s.heat.cells = [] ∨ adv = 0 → heatAdvance before adv s = s) ∧
        (0 < s.par 8 → s.heat.cells ≠ [] → 0 < adv →
          (heatAdvance before adv s).heat.acc < s.par 8 ∧
            ∀ us : Nat → State, us 0 = s →
              (∀ j, us (j + 1) =
                shiftOnce ((before : Int) + ((j : Int) + 1) * (s.par 8 : Int) - (s.heat.acc : Int)) (us j)) →
              ∀ u, u = us ((s.heat.acc + adv) / s.par 8) →
                heatAdvance before adv s =
                  finalVerdicts { u with heat := { u.heat with acc := (s.heat.acc + adv) % s.par 8 } })) ∧
    (∀ (fall : Int) (s t u : State) (c : Cell), s.heat.cells.getLast? = some c → t = exitCell c s →
      u = shiftOnce fall s →
      ∃ o, u.heat = { s.heat with cells := { owner := o, age := 0, exposure := 0 } :: s.heat.cells.dropLast } ∧
        u.fault = t.fault ∧ u.plan = { t.plan with setMap := u.plan.setMap } ∧
        (∀ y, o ≠ some y → u.findRec y = t.findRec y) ∧
        match o with
        | none =>
          ∀ r ∈ s.plan.setMap, isPanel r.kind = true →
            ¬((r.head : Int) ≤ fall - s.par 7 ∧ fall - s.par 7 < (r.head : Int) + r.outLen)
        | some x =>
          (∃ r ∈ s.plan.setMap, r.serial = x ∧ isPanel r.kind = true ∧ (r.head : Int) ≤ fall - s.par 7 ∧
            fall - s.par 7 < (r.head : Int) + r.outLen) ∧
          ∀ q, t.findRec x = some q → u.findRec x = some { q with cells := q.cells + 1 }) ∧
    (∀ (s : State) (z i : Nat), 1 ≤ z → z ≤ s.par 10 →
      (inZone s z i = true ↔
        (if z = 1 then 0 else s.par (9 + z)) ≤ i ∧ i < (if z = s.par 10 then s.par 9 else s.par (10 + z)))) ∧
    ∀ (e : Nat) (s : State),
      (∀ i c, s.heat.cells[i]? = some c →
        (c.owner = none → (ageCells e s).heat.cells[i]? = some c) ∧
        ∀ o r id k, c.owner = some o → s.findRec o = some r → r.kind = .panel id → k = s.cls id.cls →
          ∃ d, (ageCells e s).heat.cells[i]? = some d ∧ d.owner = c.owner ∧ d.age = min 16777215 (c.age + e) ∧
            ((∃ z, 1 ≤ z ∧ z ≤ s.par 10 ∧ inZone s z i = true ∧
                ∀ v, s.zone z = some v →
                  v + k.tol < k.sets.getD (z - 1) 0 ∨ k.sets.getD (z - 1) 0 + k.tol < v) →
              d.exposure = min 16777215 (c.exposure + e)) ∧
            ((∀ z, 1 ≤ z → z ≤ s.par 10 → inZone s z i = true →
                ∃ v, s.zone z = some v ∧ k.sets.getD (z - 1) 0 ≤ v + k.tol ∧ v ≤ k.sets.getD (z - 1) 0 + k.tol) →
              d.exposure = c.exposure)) ∧
        ((ageCells e s).cond .overdwell = true ↔
          ∃ c ∈ (ageCells e s).heat.cells, ∃ o r id, c.owner = some o ∧ s.findRec o = some r ∧ r.kind = .panel id ∧
            (s.cls id.cls).maxDwell * 1000 < c.age * s.par 1)

/-- A cell's exit judged against its owner's class: the record's ages, exposure and count of cells; REJECT_UNDERSET or
REJECT_OVERSET, and REJECT_BAND, each marked once with its fault, the first heat reason kept; and the verdict of a
panel past the box made final, ACCEPT without a heat reason and otherwise the first received, a final one staying
(R97, R98, R99, R40). -/
def Obligations.ExitsJudged : Prop :=
  (∀ (c : Cell) (o : SegSerial) (r : SetRec) (id : PanelId) (s : State), c.owner = some o → s.findRec o = some r →
      r.kind = .panel id →
      ∃ q, (exitCell c s).findRec o = some q ∧ q.cells = r.cells - 1 ∧
        q.minAge = some (match r.minAge with | some a => min a c.age | none => c.age) ∧
        q.maxAge = some (match r.maxAge with | some a => max a c.age | none => c.age) ∧
        q.maxExposure = max r.maxExposure c.exposure ∧
        (∀ u x b, u = c.age * s.par 1 →
          x = (if u < (s.cls id.cls).minDwell * 1000 then some Reject.underset
               else if (s.cls id.cls).maxDwell * 1000 < u then some Reject.overset else none) →
          b = decide ((s.cls id.cls).bandAllow * 1000 < c.exposure * s.par 1) →
          (∀ n, n < 8 →
            q.rejects.getLsbD n =
              (r.rejects.getLsbD n || decide (x.map rejectCode = some n) || (b && decide (n = 3)))) ∧
          (r.rejects = 0 → r.first = none → r.firstHeat = none →
            q.first = x.or (if b = true then some .band else none) ∧
              q.firstHeat = x.or (if b = true then some .band else none)) ∧
          ((x = none ∨ ∃ y, x = some y ∧ holdsReason y r = true) → (b = false ∨ r.rejects.getLsbD 3 = true) →
            (exitCell c s).fault = s.fault) ∧
          (((∃ y, x = some y ∧ holdsReason y r = false) ∨ (b = true ∧ r.rejects.getLsbD 3 = false)) →
            (exitCell c s).fault.flags.getLsbD 2 = true ∧
              ∃ h, (exitCell c s).fault.history.head? = some h ∧ h.subject = .order id.order)) ∧
        (r.first ≠ none → q.first = r.first) ∧ (r.firstHeat ≠ none → q.firstHeat = r.firstHeat)) ∧
    (∀ (c : Cell) (s : State), c.owner = none → exitCell c s = s) ∧
    ∀ (s : State) (i : Nat) (r : SetRec), s.plan.setMap[i]? = some r →
      (finalVerdicts s).plan.setMap[i]? =
        some
          (if isPanel r.kind = true ∧ r.cells = 0 ∧
              ((s.par 7 + s.par 9 * s.par 8 + s.par 8 : Nat) : Int) ≤
                (s.setPos : Int) - ((r.head : Int) + r.outLen) ∧ r.verdict = none then
            { r with verdict := some (match r.firstHeat with | some x => .reject x | none => .accept) }
           else r)

/-- The zone command by the first of the cases of R105, the steam restriction, and the target setpoint with the target
class in the order of R104; ZONE_SET of a zone that does not exist is setpoint 0, CLOSED (R93, R103, R104, R105). -/
def Obligations.ZoneCommandsFormed : Prop :=
  ∀ (s : State) (z : Nat), 1 ≤ z →
    (s.par 10 < z → zoneCommand s z = (0, false)) ∧
    (z ≤ s.par 10 →
      zoneCommand s z =
        if s.heat.steam = false then (s.par 32, false)
        else if ∃ e ∈ s.react.entries, e.state = .purge then (targetSetpoint s z, false)
        else if s.steamRestriction = .vent ∨ s.steamRestriction = .close then (targetSetpoint s z, false)
        else if s.steamRestriction = .standby ∨ s.heat.phase = .standby then (s.par 32, true)
        else (targetSetpoint s z, true)) ∧
    (∀ e ∈ s.react.entries, e.state = .applied → steamCode e.steamAction ≤ steamCode s.steamRestriction) ∧
    (s.steamRestriction = .keep ∨
      ∃ e ∈ s.react.entries, e.state = .applied ∧ e.steamAction = s.steamRestriction) ∧
    targetSetpoint s z = (match targetClass s z with | some c => (s.cls c).sets.getD (z - 1) 0 | none => s.par 32) ∧
    (∀ (i : Nat) (c : Cell) (o : SegSerial) (r : SetRec) (id : PanelId), inZone s z i = true →
      s.heat.cells[i]? = some c → c.owner = some o → s.findRec o = some r → r.kind = .panel id →
      (∀ (j : Nat) (d : Cell), j < i → inZone s z j = true → s.heat.cells[j]? = some d → d.owner = none) →
      targetClass s z = some id.cls) ∧
    ((∀ (j : Nat) (d : Cell), inZone s z j = true → s.heat.cells[j]? = some d → d.owner = none) →
      (∀ (i : Nat) (c : Cell) (o : SegSerial) (r : SetRec) (id : PanelId), i < zoneFirst s.table.applied z →
        s.heat.cells[i]? = some c → c.owner = some o → s.findRec o = some r → r.kind = .panel id →
        (∀ (j : Nat) (d : Cell), i < j → j < zoneFirst s.table.applied z → s.heat.cells[j]? = some d →
          d.owner = none) →
        targetClass s z = some id.cls) ∧
      ((∀ (j : Nat) (d : Cell), j < zoneFirst s.table.applied z → s.heat.cells[j]? = some d → d.owner = none) →
        (∀ (i : Nat) (r : SetRec) (id : PanelId), s.plan.setMap[i]? = some r → r.kind = .panel id → r.cells = 0 →
          tailDistance s r < s.par 7 →
          (∀ (j : Nat) (q : SetRec), j < i → s.plan.setMap[j]? = some q → isPanel q.kind = true →
            ¬(q.cells = 0 ∧ tailDistance s q < s.par 7)) →
          targetClass s z = some id.cls) ∧
        ((∀ q ∈ s.plan.setMap, isPanel q.kind = true → ¬(q.cells = 0 ∧ tailDistance s q < s.par 7)) →
          (∀ (i : Nat) (g : Seg) (id : PanelId), s.plan.segs[i]? = some g → g.kind = .panel id →
            (∀ (j : Nat) (h : Seg), j < i → s.plan.segs[j]? = some h → isPanel h.kind = false) →
            targetClass s z = some id.cls) ∧
          ((∀ h ∈ s.plan.segs, isPanel h.kind = false) → targetClass s z = none))))

/-- The command values RING writes, field by field in the layouts of R204, and LINE_STATUS in that of R197, every bit
not listed 0: BLADE_CMD with its action (R46), the speeds, VENT (R106), the stands' commands, SPLICE_CMD and
CUTTER_CMD. The bounds are those of the fields' own rules. -/
def Obligations.CommandWordsSent : Prop :=
  ∀ (s : State) (notice : Bool),
    (s.fold.heldDepth ≤ 5000 →
      ∃ w : Word, commandValue notice s 14 = w ∧ w.extractLsb' 0 8 = s.fold.held ∧
        w.getLsbD 8 = decide (s.fold.heldDir = .right) ∧ w.getLsbD 9 = s.fold.heldLast ∧ w.extractLsb' 10 2 = 0 ∧
        (w.extractLsb' 12 13).toNat = s.fold.heldDepth ∧ w.extractLsb' 25 6 = 0 ∧
        (w.getLsbD 31 = true ↔
          s.fold.stroke ≠ none ∨ s.mode.mode = .run ∨ s.mode.mode = .hold ∨ s.mode.mode = .drain ∨
            (s.mode.mode = .halting ∧ s.mode.step = 0))) ∧
    (s.gov.feed ≤ 200000 → (commandValue notice s 15).toNat = s.gov.feed) ∧
    (s.gov.conv ≤ 100000 → (commandValue notice s 16).toNat = s.gov.conv) ∧
    (∀ z, 1 ≤ z → z ≤ 4 → (zoneCommand s z).1 ≤ 2500 →
      ∃ w : Word, commandValue notice s (16 + z) = w ∧ (w.extractLsb' 0 12).toNat = (zoneCommand s z).1 ∧
        w.extractLsb' 12 19 = 0 ∧ w.getLsbD 31 = (zoneCommand s z).2) ∧
    commandValue notice s 21 =
      (if (∃ e ∈ s.react.entries, e.state = .purge) ∨ s.steamRestriction = .vent then 1 else 0) ∧
    (∀ x : Stand, (match x with | .a => s.gov.standA | .b => s.gov.standB) ≤ 200000 →
      ∃ w : Word, commandValue notice s (match x with | .a => 22 | .b => 23) = w ∧
        (w.extractLsb' 0 18).toNat = (match x with | .a => s.gov.standA | .b => s.gov.standB) ∧
        w.extractLsb' 18 13 = 0 ∧ w.getLsbD 31 = (s.stand x).brake) ∧
    (∃ w : Word, commandValue notice s 24 = w ∧ w.extractLsb' 0 8 = s.roll.pasteSerial ∧
      w.extractLsb' 8 8 = s.roll.cutSerial ∧ w.getLsbD 16 = s.roll.arm ∧
      w.getLsbD 17 = decide (s.roll.armStand = .b) ∧ w.extractLsb' 18 14 = 0) ∧
    (∃ w : Word, commandValue notice s 25 = w ∧ w.extractLsb' 0 8 = s.plan.cutSerial ∧ w.getLsbD 8 = s.plan.divert ∧
      w.extractLsb' 9 23 = 0) ∧
    (s.react.entries.length = 8 → logOk s → s.plan.segs.length ≤ 32 →
      ∃ w : Word, commandValue notice s 26 = w ∧
        (w.extractLsb' 0 3).toNat =
          (match s.mode.mode with
           | .halt => 0 | .halting => 1 | .thread => 2 | .warmup => 3 | .run => 4 | .hold => 5 | .drain => 6) ∧
        (w.extractLsb' 3 3).toNat =
          (match s.roll.state with | .idle => 0 | .armed => 1 | .prepare => 2 | .paste => 3 | .cut => 4 | .settle => 5) ∧
        (w.extractLsb' 6 3).toNat =
          (match s.gov.cause with
           | .request => 0 | .dwell => 1 | .stroke => 2 | .splice => 3 | .mode => 4 | .reaction => 5) ∧
        (w.extractLsb' 9 4).toNat = (s.react.entries.filter fun e => e.state != .idle).length ∧
        (w.getLsbD 13 = true ↔ ∃ e ∈ s.react.entries, e.state = .purge) ∧ w.getLsbD 14 = s.cond .faultLatched ∧
        (w.extractLsb' 15 6).toNat = s.plan.log.length ∧ w.getLsbD 21 = s.plan.discard ∧ w.getLsbD 22 = notice ∧
        w.getLsbD 23 = decide (s.heat.phase = .warning) ∧ (w.extractLsb' 24 6).toNat = s.plan.segs.length ∧
        w.extractLsb' 30 2 = 0)

/-- The cut test: the oldest record is cut when it has left the blade, its tail is at or beyond L_CUT and, for a
PANEL, it owns no cell; otherwise nothing changes (R83). CUTTER_CMD takes the next cut serial and diverts whatever is
not accepted. A PANEL's outcome joins the log with its dwells and exposure in whole ms, up to 16,777,215, the dwells 0
where no cell was judged; a log of 32 drops its oldest entry and sets the discard flag, and it keeps to 32 (R84, R85).
Its slot's use count falls by one, the slot READY again at the last, and its class's use count too; a record that is no
PANEL gives no entry and lowers no count (R37, R84, R92). -/
def Obligations.OldestRecordCut : Prop :=
  (∀ (s : State) (r : SetRec), tailDistance s r = (s.setPos : Int) - ((r.head : Int) + r.outLen)) ∧
    (∀ s : State, s.plan.setMap = [] → cutTest s = s) ∧ (∀ s : State, logOk s → logOk (cutTest s)) ∧
    ∀ (s : State) (r : SetRec) (rest : List SetRec), s.plan.setMap = r :: rest →
      if (∀ g, s.fold.seg = some g → g.serial ≠ r.serial) ∧ (s.par 14 : Int) ≤ tailDistance s r ∧
          (isPanel r.kind = true → r.cells = 0) then
        (isPanel r.kind = false →
          cutTest s =
            { s with
              plan := { s.plan with setMap := rest, cutSerial := s.plan.cutSerial + 1, divert := true } }) ∧
        ∀ (id : PanelId) (ms : Nat → Nat) (c : Completion), r.kind = .panel id →
          (∀ n, ms n = min 16777215 (n * s.par 1 / 1000)) →
          c = { id := id, first := r.first, folds := r.folds, maxLate := r.maxLate,
                minDwell := (match r.minAge with | some n => ms n | none => 0),
                maxDwell := (match r.maxAge with | some n => ms n | none => 0),
                exposure := ms r.maxExposure, disposition := r.disposition } →
          cutTest s =
            { s with
              plan := { s.plan with
                        setMap := rest, cutSerial := s.plan.cutSerial + 1, divert := decide (r.first ≠ none)
                        log := if s.plan.log.length < 32 then s.plan.log ++ [c] else s.plan.log.tail ++ [c]
                        discard := if s.plan.log.length < 32 then s.plan.discard else true }
              pat := s.pat.modify id.slot fun p =>
                { p with useCount := p.useCount - 1, state := if p.useCount = 1 then .ready else p.state }
              heat := { s.heat with
                        classes := s.heat.classes.modify id.cls fun k => { k with useCount := k.useCount - 1 } } }
      else cutTest s = s

/-- ROLL's judgements in IDLE and ARMED: the forced change, the automatic arming, the no-standby episode with fault
451, the abandonment of ARMED, the commit with its entry into PREPARE, and the entry's effects (R135, R138, R139, R140;
their order in one frame: notes/assumptions/10.md and 33.md). As a command of its own (notes/assumptions/3.md), a
waiting reservation is asked for again in ARMED: it is made when the plan with the window would hold at most 28
segments, and waits on otherwise (R74, R138; the new serials' order: notes/assumptions/14.md). The WINDOW is movable,
of length WINDOW_LEN, with a new serial: immediately before the first movable segment that starts at or beyond T =
P_unwind + PREP_DIST, with a replan; or, where there is none, at the plan end, behind a GAP up to T where the plan ends
below T, which merges with a GAP already last. Every other record but a GAP keeps its serial, kind and length, and an
anchored one its place (R74, R64, R69, R70). -/
def Obligations.ChangesArmedAndCommitted : Prop :=
  (∀ (e : Nat) (s t : State) (x : Stand) (d : Nat), t = rollJudge e s → s.activeStand = some (otherStand x) →
      (s.stand (otherStand x)).diam = some d → s.mode.mode = .run ∨ s.mode.mode = .drain →
      (s.par 34 < d → d ≤ s.par 33 → s.roll.state = .idle → s.roll.hold = false → s.roll.missCount < 3 →
        (s.stand x).role = some .ready →
        t.roll.state = .armed ∧ t.roll.incoming = some x ∧ t.roll.forced = false ∧ t.roll.missCount = 0 ∧
          t.roll.noStandby = false ∧
          if (placeWindow s).2.plan.segs.length ≤ 28 then
            t.roll.winStatus = .reserved ∧ t.roll.winSerial = some (placeWindow s).1 ∧ t.plan = (placeWindow s).2.plan
          else t.roll.winStatus = .pending ∧ t.plan = s.plan) ∧
      (d ≤ s.par 34 → s.roll.state = .idle ∨ s.roll.state = .armed → (s.stand x).role = some .ready →
        t.roll.state = .prepare ∧ t.roll.incoming = some x ∧ t.roll.forced = true ∧ t.roll.pastePos = some s.pUnwind ∧
          t.roll.winStatus = .none ∧ t.roll.arm = true ∧ t.roll.armStand = x ∧ t.roll.matchCount = 0 ∧
          t.roll.confirmAge = 0 ∧ t.roll.matchTimer = 0 ∧ t.roll.matched = false ∧ t.roll.failed = false ∧
          t.roll.pasteSerial = s.roll.pasteSerial ∧ t.roll.cutSerial = s.roll.cutSerial ∧
          (t.stand x).role = some .incoming ∧ (t.stand x).brake = false ∧
          t.plan = if s.roll.winStatus = .reserved ∨ s.roll.winStatus = .committed then (releaseWindow s).plan
            else s.plan) ∧
      ((d ≤ s.par 34 ∨ (d ≤ s.par 33 ∧ s.roll.hold = false ∧ s.roll.missCount < 3)) → s.roll.state = .idle →
        (s.stand x).role ≠ some .ready →
        t.roll = { s.roll with noStandby := true } ∧ t.plan = s.plan ∧
          (s.roll.noStandby = true → t.fault = s.fault) ∧
          (s.roll.noStandby = false → t.fault.flags.getLsbD 3 = true ∧
            t.fault.history.head?.map (·.subject) = some (.stand x))) ∧
      (s.par 34 < d → s.roll.state = .armed → (s.stand x).role = some .notReady ∨ (s.stand x).role = some .absent →
        t.roll.state = .idle ∧ t.roll.winStatus = .none ∧ t.fault = s.fault ∧
          (s.roll.winStatus ≠ .reserved → s.roll.winStatus ≠ .committed → t.plan = s.plan)) ∧
      (∀ w, s.par 34 < d → s.roll.state = .armed → s.roll.winStatus = .reserved → s.roll.incoming = some x →
        (s.stand x).role = some .ready → s.window = some w →
        if w.start ≤ s.pUnwind + s.par 43 then
          t.roll.state = .prepare ∧ t.roll.winStatus = .committed ∧
            t.roll.pastePos = some (w.start + s.par 45) ∧ t.roll.forced = s.roll.forced ∧ t.roll.arm = true ∧
            t.roll.armStand = x ∧ t.roll.matchCount = 0 ∧ t.roll.confirmAge = 0 ∧ t.roll.matchTimer = 0 ∧
            t.roll.matched = false ∧ t.roll.failed = false ∧ (t.stand x).role = some .incoming ∧
            (t.stand x).brake = false ∧ { w with anchored := true } ∈ t.plan.segs ∧
            t.plan.segs.map (fun g => (g.serial, g.start, g.len)) = s.plan.segs.map fun g => (g.serial, g.start, g.len)
        else t = { s with roll := { s.roll with noStandby := false } })) ∧
    (∀ (s t : State) (serial : SegSerial) (beyond : Nat), (serial, t) = placeWindow s →
      beyond = s.pUnwind + s.par 43 →
      (gapsMerged s → s.serials.length < 65535 → serial ∉ s.serials) ∧
        (∀ g ∈ s.plan.segs, g.kind ≠ .gap →
          ∃ h ∈ t.plan.segs, h.serial = g.serial ∧ h.kind = g.kind ∧ h.len = g.len ∧ (g.anchored = true → h = g)) ∧
        t = { s with plan := { s.plan with segs := t.plan.segs, counter := t.plan.counter } } ∧
        (∀ (i : Nat) (g : Seg), s.movable[i]? = some g → beyond ≤ g.start →
          (∀ (j : Nat) (h : Seg), j < i → s.movable[j]? = some h → h.start < beyond) →
          ∃ (u : State) (w : Seg),
            w = { serial := serial, kind := .window, start := 0, len := s.par 44, anchored := false } ∧
            u = { s with plan := { s.plan with counter := serial } } ∧
            t = replanWith (s.movable.take i ++ w :: s.movable.drop i) s.anchored u ∧
            ∃ x, { w with start := x } ∈ t.plan.segs ∧
              x = placeStart s.anchored
                (match (placeMovable s.anchored (s.movable.take i) s.planOrigin).1.getLast? with
                 | some h => segEnd h
                 | none => s.planOrigin) (s.par 44)) ∧
        ((∀ g ∈ s.movable, g.start < beyond) → planContiguous s →
          ∃ (gap : List Seg) (k : SegSerial),
            gap =
              (if s.planEnd < beyond then
                 [{ serial := k, kind := .gap, start := s.planEnd, len := beyond - s.planEnd, anchored := false }]
               else []) ∧
            t.plan.segs =
              mergeGaps (s.plan.segs ++ gap) ++
                [{ serial := serial, kind := .window, start := max s.planEnd beyond, len := s.par 44,
                   anchored := false }])) ∧
    ∀ (s : State) (x : Stand), s.roll.state = .armed → s.roll.winStatus = .pending → reactQuiet s →
      s.activeStand = some (otherStand x) → (s.stand x).role ≠ some .notReady → (s.stand x).role ≠ some .absent →
      ∃ t, exec .windowReservation s = .next t ∧ t.ring = s.ring ∧ sameInputs s t ∧
        if (placeWindow s).2.plan.segs.length ≤ 28 then
          t.plan = (placeWindow s).2.plan ∧ t.roll.winStatus = .reserved ∧ t.roll.winSerial = some (placeWindow s).1
        else t.plan = s.plan ∧ t.roll.winStatus = .pending ∧ t.roll.winSerial = none

/-- ROLL's judgements in PREPARE: the match timer grows in a frame that is not ready to paste, the missed window with
fault 411, and fault 412 at the third miss (R141, R143); after GOV, the match count by the fresh speed sample of the
incoming stand, matched, and the paste, made when matched with the serials synchronised within the paste range, which
hands PLAN the splice record (R141, R144, R76). Fields that no rule names are kept (notes/assumptions/11.md). That
the timer grows before the judgements of its frame, and so in the frame of a miss too, is the model's choice
(notes/assumptions/46.md). -/
def Obligations.ChangesMatchedAndPasted : Prop :=
  (∀ (e : Nat) (s t : State) (x : Stand), t = rollJudge e s → s.roll.state = .prepare → s.roll.incoming = some x →
      t.roll.matchTimer =
          (if s.roll.matched = true ∧ s.roll.synced = true then s.roll.matchTimer
           else min 65535 (s.roll.matchTimer + e)) ∧
        (s.roll.forced = false →
          (∃ p, s.roll.pastePos = some p ∧ p + s.par 45 < s.pUnwind) ∨
            (s.roll.winStatus = .committed ∧ ∀ g ∈ s.plan.segs, g.kind = .window → g.anchored = false) →
          t.roll.missCount = min 3 (s.roll.missCount + 1) ∧ (t.stand x).role = some .stopping ∧ (t.stand x).step = 1 ∧
            (t.stand x).steps = 3 ∧ (t.stand x).brake = false ∧ t.fault.flags.getLsbD 3 = true ∧
            (s.roll.missCount < 2 →
              t.roll.state = .armed ∧ t.roll.incoming = some x ∧ t.roll.hold = s.roll.hold ∧
                (t.roll.winStatus = .reserved ∨ t.roll.winStatus = .pending) ∧
                t.cond .spliceFailed = s.cond .spliceFailed) ∧
            (2 ≤ s.roll.missCount →
              t.roll.state = .idle ∧ t.roll.hold = true ∧ t.cond .spliceFailed = true ∧ t.roll.winStatus = .none ∧
                ∀ g ∈ t.plan.segs, s.roll.winStatus = .committed → g.kind ≠ .window)) ∧
        (s.roll.forced = true ∨
            ((∀ p, s.roll.pastePos = some p → s.pUnwind ≤ p + s.par 45) ∧
              (s.roll.winStatus = .committed → ∃ g ∈ s.plan.segs, g.kind = .window ∧ g.anchored = true)) →
          t.roll.matchTimer < s.par 38 →
          t = { s with roll := { s.roll with matchTimer := t.roll.matchTimer, noStandby := false } })) ∧
    ∀ (s t : State) (x : Stand) (n : Nat) (m : Bool), t = matchAndPaste s → s.roll.state = .prepare →
      s.roll.incoming = some x →
      (∀ v g, g = s.entry (match x with | .a => 9 | .b => 10) → (s.stand x).speed = some v → g.state = .fresh →
        g.stale = g.staleLimit →
        n = (if v ≤ s.gov.feed + s.par 36 ∧ s.gov.feed ≤ v + s.par 36 then min 255 (s.roll.matchCount + 1) else 0) ∧
          m = decide (s.par 37 ≤ n)) →
      ((s.entry (match x with | .a => 9 | .b => 10)).state ≠ .fresh ∨
          (s.entry (match x with | .a => 9 | .b => 10)).stale ≠
            (s.entry (match x with | .a => 9 | .b => 10)).staleLimit ∨ (s.stand x).speed = none →
        n = s.roll.matchCount ∧ m = s.roll.matched) →
      t.roll.matchCount = n ∧ t.roll.matched = m ∧
        if m = true ∧ s.roll.synced = true ∧
            ∃ p, s.roll.pastePos = some p ∧ p ≤ s.pUnwind ∧ (s.roll.forced = true ∨ s.pUnwind ≤ p + s.par 45) then
          t.roll.state = .paste ∧ t.roll.pasteSerial = s.roll.pasteSerial + 1 ∧ t.roll.armStand = x ∧
            t.roll.pasteFlight = true ∧ t.roll.confirmAge = 0 ∧ t.roll.winStatus = .none ∧ t.roll.winSerial = none ∧
            t.roll.pastePos = none ∧ t.roll.cutSerial = s.roll.cutSerial ∧
            t.plan = (spliceRecord s.pUnwind s).plan ∧ t.fold = (spliceRecord s.pUnwind s).fold
        else t = { s with roll := { s.roll with matchCount := n, matched := m } }

/-- HALTING takes one step at each used cycle frame that finds the line in it, entering HALT at the fourth, with the
standby count begun and BLADE_OVERRUN inactive, and the halt cause kept; a frame in which HALTING is entered takes none
(R164, R50, R107). DRAIN ends, with every reaction disabled and IDLE and no position newly saturated, in the frame
after whose cut test no PANEL is at the blade or in the set map: HALTING with cause DRAIN_END and every speed command
0; otherwise DRAIN goes on (R161, R163, R123). The entries. Into HALTING, from any mode but HALT and HALTING: mode,
cause and zero speeds; the walk of a WALKING panel ABORTED, its set-map record marked REJECT_HALTED and given the
output length O' = O_done + (F − F_done), the stroke in flight as it was; a change in ARMED or PREPARE dropped to IDLE,
the window released or the reservation dropped, and in PREPARE the incoming stand stopping in three steps (R58, R57,
R150, R148, R75, R123). Into HOLD: a change in PREPARE goes back to ARMED so, forced false, and asks for a new
reservation, any other stays (R150, R138). No fault, SPLICE_FAILED, miss count or hold changes (R150). That the
hand-over test follows an aborted walk is notes/assumptions/18.md, and what of the sequencer record is kept
notes/assumptions/11.md. -/
def Obligations.HaltingAndDrainStep : Prop :=
  (∀ s : State, s.mode.mode = .halting →
      (s.mode.step < 3 → haltingStep s = { s with mode := { s.mode with step := s.mode.step + 1 } }) ∧
      (3 ≤ s.mode.step →
        ∃ marks, haltingStep s =
            { s with
              mode := { s.mode with mode := .halt, step := 0 }
              heat := { s.heat with phase := .counting, standbyTimer := 0 }
              react := { s.react with marks := marks } } ∧
          (haltingStep s).cond .bladeOverrun = false ∧
          ∀ c, c ≠ .bladeOverrun → (haltingStep s).cond c = s.cond c)) ∧
    (∀ (s : State) (segs : List Seg) (stands : Stand → StandRec) (dropped : SeqState → Roll) (leaves : State → Prop),
      segs =
        (if s.roll.winStatus = .reserved ∨ s.roll.winStatus = .committed then
           mergeGaps
             (s.plan.segs.map fun g => if g.kind = .window then { g with kind := .gap, anchored := false } else g)
         else s.plan.segs) →
      (∀ x, stands x =
        if s.roll.state = .prepare ∧ s.roll.incoming = some x then
          { s.stand x with role := some .stopping, step := 1, steps := 3, brake := false }
        else s.stand x) →
      (∀ st, dropped st =
        { s.roll with
          standA := stands .a, standB := stands .b, state := st, winStatus := .none, winSerial := none,
          pastePos := none }) →
      (∀ u, leaves u ↔ u.react = { s.react with marks := u.react.marks } ∧
        ∀ c, u.cond c = (s.cond c && !(decide (c = .planEmpty) && decide (s.mode.mode = .run)))) →
      (∀ cause, ¬ moving s → enterHalting cause s = s) ∧
      (moving s →
        (∀ cause, ∃ u, leaves u ∧
          u = { s with
                mode := { mode := .halting, step := 0, cause := cause }
                gov := { s.gov with
                         conv := 0, target := 0, cause := .mode, feed := 0, standA := 0, standB := 0 }
                fold := { s.fold with
                          seg := s.fold.seg.map fun g =>
                            { g with
                              walk := g.walk.map fun w =>
                                if w.status = .walking then { w with status := .aborted } else w } }
                plan := { s.plan with
                          segs := if s.roll.state = .armed ∨ s.roll.state = .prepare then segs else s.plan.segs
                          setMap := s.plan.setMap.map fun r =>
                            match s.fold.seg, s.walk with
                            | some g, some w =>
                              if w.status = .walking ∧ r.serial = g.serial then
                                { r with
                                  rejects := r.rejects ||| 128#8
                                  first := if r.rejects.getLsbD 7 = true then r.first else r.first.or (some .halted)
                                  outLen := w.outDone + (g.len - w.flatDone) }
                              else r
                            | _, _ => r }
                roll := if s.roll.state = .armed ∨ s.roll.state = .prepare then dropped .idle else s.roll
                react := u.react } ∧
          enterHalting cause s = if s.walking = true then handOver u else u) ∧
        (s.roll.state ≠ .prepare → ∃ u, leaves u ∧
          u = { s with mode := { s.mode with mode := .hold }, react := u.react } ∧ enterHold s = u) ∧
        (s.roll.state = .prepare → ∃ u, leaves u ∧
          u = { s with
                mode := { s.mode with mode := .hold }, plan := { s.plan with segs := segs }
                roll := { dropped .armed with forced := false }, react := u.react } ∧
          enterHold s =
            if (placeWindow u).2.plan.segs.length ≤ 28 then
              { u with
                plan := (placeWindow u).2.plan
                roll := { u.roll with winStatus := .reserved, winSerial := some (placeWindow u).1 } }
            else { u with roll := { u.roll with winStatus := .pending } }))) ∧
    ∀ (f : CycleFrame) (s t : State) (e : Nat), s.ring.bypass = false → f.wf = true → e = elapsedFor s f.cycle →
      1 ≤ e → e ≤ 32768 → exec (.cycleFrame f) s = .next t →
      (s.mode.mode = .halting →
        t.mode =
            (if 3 ≤ s.mode.step then { s.mode with mode := .halt, step := 0 }
             else { s.mode with step := s.mode.step + 1 }) ∧
          (3 ≤ s.mode.step →
            t.heat.phase = .counting ∧ t.heat.standbyTimer = 0 ∧ t.cond .bladeOverrun = false)) ∧
      (moving s → t.mode.mode ≠ .halt ∧ (t.mode.mode = .halting → t.mode.step = 0)) ∧
      (s.mode.mode = .drain → reactQuiet s → t.pos.flat.saturated = s.pos.flat.saturated →
        t.pos.conv.saturated = s.pos.conv.saturated →
        if t.bladePanel = none ∧ ∀ r ∈ t.plan.setMap, isPanel r.kind = false then
          t.mode = { mode := .halting, step := 0, cause := .drainEnd } ∧ speedsZero t
        else t.mode = s.mode)

/-- REACT's judging of an event. An enabled IDLE entry with an active condition is triggered: WAITING, or APPLIED at
once with PURGE_CYCLES 0; an entry that is not IDLE keeps its remaining cycles (R185). Where no entry asks for a mode:
the purge timer goes to the entry of highest PRIORITY, lowest index among equals, and pre-empts a holder of lower
priority only (R186); an APPLIED entry with AUTO_CLEAR whose conditions are inactive returns to IDLE (R189). A single
entry newly APPLIED with a mode action has it made: HALTING with its index and every speed command 0, or HOLD from RUN
or DRAIN (R162, R163, R187). A used frame's elapsed count lowers the holder's remaining cycles (R187). As a command of
its own (notes/assumptions/3.md), PURGE_END: the purge of the one entry in PURGE ends: it becomes APPLIED and stays so
without AUTO_CLEAR; its mode action HALT enters HALTING with its index (R187, R162, R163). -/
def Obligations.ReactionsTriggeredAndPurged : Prop :=
  (∀ (s t : State) (due : ReactEntry → Prop), t = settle s →
      (∀ p, due p ↔ p.enabled = true ∧ p.state = .idle ∧ p.trigger &&& s.react.marks ≠ 0) →
      (∀ (i : Nat) (p : ReactEntry), s.react.entries[i]? = some p →
        ∃ q, t.react.entries[i]? = some q ∧ q = { p with state := q.state, remaining := q.remaining } ∧
          (p.state = .waiting ∨ p.state = .purge →
            q.remaining = p.remaining ∧ (q.state = .waiting ∨ q.state = .purge)) ∧
          (p.autoClear = false →
            (p.state = .applied → q = p) ∧
            (due p → p.purgeCycles = 0 → q.state = .applied ∧ q.remaining = 0) ∧
            (due p → 0 < p.purgeCycles →
              q.remaining = p.purgeCycles ∧ (q.state = .waiting ∨ q.state = .purge)))) ∧
      ((∀ p ∈ s.react.entries, p.modeAction = .none) →
        t.mode = s.mode ∧
        (∀ (i : Nat) (p : ReactEntry), s.react.entries[i]? = some p → p.autoClear = true → p.state = .applied →
          p.trigger &&& s.react.marks = 0 → t.react.entries[i]? = some { p with state := .idle }) ∧
        ∀ (waits : Nat → ReactEntry → Prop) (b : Nat) (p : ReactEntry), onePurge s →
          (∀ j q, waits j q ↔
            s.react.entries[j]? = some q ∧ (q.state = .waiting ∨ (due q ∧ 0 < q.purgeCycles))) →
          waits b p → (∀ j q, waits j q → q.priority ≤ p.priority ∧ (q.priority = p.priority → b ≤ j)) →
          ((∀ q ∈ s.react.entries, q.state = .purge → q.priority < p.priority) →
            (t.react.entries[b]?.map (·.state)) = some .purge ∧
              (∀ j q, waits j q → j ≠ b → (t.react.entries[j]?.map (·.state)) = some .waiting) ∧
              ∀ (h : Nat) (q : ReactEntry), s.react.entries[h]? = some q → q.state = .purge →
                t.react.entries[h]? = some { q with state := .waiting }) ∧
          ∀ (h : Nat) (q : ReactEntry), s.react.entries[h]? = some q → q.state = .purge → p.priority ≤ q.priority →
            t.react.entries[h]? = some q ∧
              ∀ j x, waits j x → (t.react.entries[j]?.map (·.state)) = some .waiting) ∧
      ∀ (i : Nat) (p : ReactEntry), s.react.entries[i]? = some p → due p → p.purgeCycles = 0 →
        (∀ (j : Nat) (q : ReactEntry), s.react.entries[j]? = some q → j ≠ i → q.modeAction = .none) →
        (p.modeAction = .halt → moving s →
          t.mode = { mode := .halting, step := 0, cause := .reaction i } ∧ speedsZero t) ∧
        (p.modeAction = .hold → s.mode.mode = .run ∨ s.mode.mode = .drain →
          t.mode = { s.mode with mode := .hold })) ∧
    (∀ (s : State) (e h : Nat) (p : ReactEntry), s.purgeHolder = some h → s.react.entries[h]? = some p →
      e < p.remaining →
      purgeCount e s =
        { s with
          react := { s.react with entries := s.react.entries.set h { p with remaining := p.remaining - e } } }) ∧
    ∀ (s : State) (e h : Nat) (p : ReactEntry), s.react.entries[h]? = some p → p.state = .purge → onePurge s →
      p.remaining ≤ e → p.autoClear = false →
      ∃ t q, exec (.purgeEnd e) s = .next t ∧ t.react.entries[h]? = some q ∧ q.state = .applied ∧ q.remaining = 0 ∧
        t.ring = s.ring ∧ sameInputs s t ∧
        (p.modeAction = .halt → moving s →
          t.mode = { mode := .halting, step := 0, cause := .reaction h } ∧ speedsZero t)

/-! ### Happenings inside a used cycle frame -/

/-- What BLADE_STATE does to the stroke in flight. A fresh sample sets status and done-serial; before synchronisation
and with nothing in flight it may resynchronise the held serial; with a stroke in flight it completes it, leaves it, or
fails it, marking the issuing panel's record REJECT_STROKE with fault 521, and resynchronising on an unexpected serial;
a status of FAULT opens its episode with fault 531; BLADE_FAULT follows latch and status; a LOST signal makes the
status none (R45, R51, R52, R53, R54). As commands of their own (notes/assumptions/3.md), STROKE_COMPLETE and
STROKE_TIMEOUT: a stroke in flight ends, completed by its serial done, whatever the status, or failed at
STROKE_TIMEOUT; the held serial stays (R51, R52). -/
def Obligations.StrokeEnds : Prop :=
  (∀ (status : BladeStatus) (done : Serial8) (s : State) (x : Stroke), s.fold.synced = true →
      s.fold.stroke = some x → x.serial = done →
      ∃ t, exec (.strokeComplete status done) s = .next t ∧ t.fold.stroke = none ∧ t.fold.failLatch = false ∧
        t.fold.status = some status ∧ t.fold.done = done ∧ t.fold.held = s.fold.held ∧ t.ring = s.ring ∧
        sameInputs s t) ∧
    (∀ (s : State) (x : Stroke), s.fold.stroke = some x → s.par 19 ≤ x.age + 1 →
      ∃ t, exec .strokeTimeout s = .next t ∧ t.fold.stroke = none ∧ t.fold.failLatch = true ∧
        t.cond .bladeFault = true ∧ t.fault.flags.getLsbD 4 = true ∧ t.fold.held = s.fold.held ∧ t.ring = s.ring ∧
        sameInputs s t) ∧
    (∀ (s : State), (s.entry 2).slot.isSome = true → (s.entry 2).state ≠ .lost → (s.entry 2).stale ≤ 1 →
      ∃ t, exec (.signalLoss 2) s = .next t ∧ t.fold.status = none ∧ t.fold.held = s.fold.held ∧
        t.fold.done = s.fold.done ∧ t.cond .bladeFault = s.fold.failLatch) ∧
    ∀ (status : BladeStatus) (done : Serial8) (s t : State) (u : Fold), t = takeBladeState status done s →
      u = { s.fold with status := some status, done := done } →
      t = { s with
            fold := t.fold, plan := { s.plan with setMap := t.plan.setMap },
            react := { s.react with marks := t.react.marks }, fault := t.fault } ∧
        t.cond .bladeFault = (t.fold.failLatch || decide (status = .fault)) ∧
        (status = .fault → s.fold.status ≠ some .fault →
          t.fault.flags.getLsbD 4 = true ∧ ∃ h ∈ t.fault.history, h.detail = 531 ∧ h.subject = .signal 2) ∧
        (s.fold.synced = false → t.fold = { u with held := done, synced := true }) ∧
        (s.fold.synced = true → s.fold.stroke = none →
          t.fold = { u with held := if done = s.fold.held ∨ done = s.fold.held - 1 then s.fold.held else done }) ∧
        ∀ x, s.fold.synced = true → s.fold.stroke = some x →
          (done = x.serial → t.fold = { u with stroke := none, failLatch := false } ∧ t.plan = s.plan) ∧
          (done ≠ x.serial → done = x.serial - 1 → status ≠ .fault →
            t.fold = u ∧ t.plan = s.plan ∧ t.fault = s.fault) ∧
          (done ≠ x.serial → status = .fault ∨ done ≠ x.serial - 1 →
            t.fold =
                { u with
                  stroke := none, failLatch := true, held := if done = x.serial - 1 then s.fold.held else done } ∧
              t.fault.flags.getLsbD 4 = true ∧
              (∀ r id, s.findRec x.panel = some r → r.kind = .panel id →
                t.findRec x.panel =
                    some
                      { r with
                        rejects := r.rejects ||| 32#8
                        first := if r.rejects.getLsbD 5 = true then r.first else r.first.or (some .stroke) } ∧
                  t.fault.history.head?.map (fun h => (h.detail, h.subject)) = some (521, .order id.order)) ∧
              ((∀ r, s.findRec x.panel = some r → isPanel r.kind = false) →
                t.plan = s.plan ∧
                  t.fault.history.head?.map (fun h => (h.detail, h.subject)) = some (521, .none)))

/-- As commands of their own (notes/assumptions/3.md). PASTE_CONFIRM and PASTE_TIMEOUT: a paste ends, confirmed or
timed out, and the cut is made (R145, R134). CUT_CONFIRM and CUT_TIMEOUT: a cut ends, confirmed or timed out, and
SETTLE is entered: the incoming stand becomes ACTIVE, the stand that was ACTIVE stops in two steps, and the arm
retracts (R146, R147, R148, R130). SETTLE_END: SETTLE ends in IDLE, and SPLICE_FAILED and the hold are cleared when the
change did not fail (R147). MATCH_TIMEOUT: the match times out in PREPARE: the hold, SPLICE_FAILED, fault 421, and the
incoming stand stops in three steps (R142, R148, R151). A STOPPING stand takes one step at each used cycle frame that
finds it STOPPING: its next step, at which SPLICE_CMD's arm action becomes RETRACT with the held paste serial
unchanged, and at the last its derived role with the brake ON (R148, R129, R130; that the frame of the first step takes
no second one is notes/assumptions/9.md). That the confirming sample's cut serial is taken before the cut is made,
which decides the cut serial, is notes/assumptions/32.md; that the window serial is none after a match timeout, which
R142 does not say, is notes/assumptions/11.md, and that the match timer counts the failing frame's own growth is
notes/assumptions/46.md. -/
def Obligations.RollHandshakesEnd : Prop :=
  (∀ (s : State) (cut : Serial8), s.roll.state = .paste → s.roll.synced = true → s.roll.pasteFlight = true →
      s.roll.cutFlight = false →
      ∃ t, exec (.pasteConfirm s.roll.pasteSerial cut) s = .next t ∧
        t.roll =
          { s.roll with
            lastPaste := s.roll.pasteSerial, lastCut := cut, pasteFlight := false, cutFlight := true, confirmAge := 0,
            cutSerial := (if cut = s.roll.cutSerial ∨ cut = s.roll.cutSerial - 1 then s.roll.cutSerial else cut) + 1,
            state := .cut } ∧
        t.ring = s.ring ∧ sameInputs s t) ∧
    (∀ s : State, s.roll.state = .paste → s.roll.pasteFlight = true → s.par 39 ≤ s.roll.confirmAge + 1 →
      s.par 39 ≤ 255 →
      ∃ t, exec .pasteTimeout s = .next t ∧
        t.roll =
          { s.roll with
            pasteFlight := false, cutFlight := true, confirmAge := 0, cutSerial := s.roll.cutSerial + 1, failed := true,
            state := .cut } ∧
        t.cond .spliceFailed = true ∧ t.fault.flags.getLsbD 3 = true ∧ t.ring = s.ring ∧ sameInputs s t) ∧
    (∀ (s : State) (x : Stand), s.roll.state = .cut → s.roll.cutFlight = true → s.roll.incoming = some x →
      s.activeStand = some (otherStand x) →
      (∀ paste, s.roll.synced = true → s.roll.pasteFlight = false →
        ∃ t, exec (.cutConfirm paste s.roll.cutSerial) s = .next t ∧ t.roll.state = .settle ∧
          t.roll.cutFlight = false ∧ t.roll.arm = false ∧ t.roll.settleCount = 0 ∧ t.roll.failed = s.roll.failed ∧
          (t.stand x).role = some .active ∧ (t.stand x).brake = false ∧
          (t.stand (otherStand x)).role = some .stopping ∧ (t.stand (otherStand x)).step = 1 ∧
          (t.stand (otherStand x)).steps = 2 ∧ (t.stand (otherStand x)).brake = false ∧ t.ring = s.ring ∧
          sameInputs s t) ∧
      (s.par 40 ≤ s.roll.confirmAge + 1 → s.par 40 ≤ 255 →
        ∃ t, exec .cutTimeout s = .next t ∧ t.roll.state = .settle ∧ t.roll.cutFlight = false ∧ t.roll.arm = false ∧
          t.roll.settleCount = 0 ∧ t.roll.failed = true ∧ t.cond .spliceFailed = true ∧
          t.fault.flags.getLsbD 3 = true ∧ (t.stand x).role = some .active ∧
          (t.stand (otherStand x)).role = some .stopping ∧ (t.stand (otherStand x)).step = 1 ∧
          (t.stand (otherStand x)).steps = 2 ∧ t.ring = s.ring ∧ sameInputs s t)) ∧
    (∀ (s : State) (e : Nat), s.roll.state = .settle → s.par 41 ≤ s.roll.settleCount + e → s.par 41 ≤ 65535 →
      ∃ t, exec (.settleEnd e) s = .next t ∧ t.roll.state = .idle ∧ t.roll.incoming = none ∧
        t.roll.forced = false ∧ t.roll.missCount = 0 ∧ t.ring = s.ring ∧ sameInputs s t ∧
        (s.roll.failed = false → t.roll.hold = false ∧ t.cond .spliceFailed = false) ∧
        (s.roll.failed = true → t.roll.hold = s.roll.hold ∧ t.cond .spliceFailed = s.cond .spliceFailed)) ∧
    (∀ (s : State) (e : Nat) (x : Stand), s.roll.state = .prepare → s.roll.incoming = some x →
      s.roll.matched = false ∨ s.roll.synced = false → s.par 38 ≤ s.roll.matchTimer + e → s.par 38 ≤ 65535 →
      ∃ t, exec (.matchTimeout e) s = .next t ∧ t.roll.state = .idle ∧ t.roll.hold = true ∧
        t.roll.winStatus = .none ∧ t.roll.winSerial = none ∧ t.roll.pastePos = none ∧
        t.cond .spliceFailed = true ∧ t.fault.flags.getLsbD 3 = true ∧ (t.stand x).role = some .stopping ∧
        (t.stand x).step = 1 ∧ (t.stand x).steps = 3 ∧ t.ring = s.ring ∧ sameInputs s t) ∧
    (∀ (f : CycleFrame) (s t : State) (e : Nat) (x : Stand), s.ring.bypass = false → f.wf = true →
      e = elapsedFor s f.cycle → 1 ≤ e → e ≤ 32768 → exec (.cycleFrame f) s = .next t →
      (s.stand x).role = some .stopping →
      (s.roll.incoming = some x →
        (s.roll.state = .idle ∨ s.roll.state = .armed ∨ s.roll.state = .settle) ∧ s.roll.pasteFlight = false ∧
          s.roll.cutFlight = false) →
      ((s.stand x).step + 1 < (s.stand x).steps →
        (t.stand x).role = some .stopping ∧ (t.stand x).step = (s.stand x).step + 1 ∧
          (t.stand x).steps = (s.stand x).steps ∧ (t.stand x).brake = false ∧
          (s.roll.state ≠ .armed ∨ s.roll.incoming = some x → t.roll.arm = false)) ∧
      ((s.stand x).steps ≤ (s.stand x).step + 1 →
        s.mode.mode = .halt ∨ s.mode.mode = .halting ∨ s.mode.mode = .thread ∨ s.mode.mode = .hold →
        (t.stand x).step = 0 ∧ (t.stand x).steps = 0 ∧ (t.stand x).brake = true ∧
          (t.stand x).role =
            (match (t.stand x).diam with
             | none => none
             | some d =>
               if (t.entry (match x with | .a => 12 | .b => 13)).state = .lost then some .notReady
               else if d = 0 then some .absent else if s.par 33 < d then some .ready else some .notReady))) ∧
    ∀ (s t : State) (e : Nat) (x : Stand), t = rollAdvance s.roll e s →
      s.roll.state = .idle ∨ s.roll.state = .armed ∨ s.roll.state = .prepare →
      (s.stand (otherStand x)).role ≠ some .stopping →
      ((s.stand x).role ≠ some .stopping → t = s) ∧
      ((s.stand x).role = some .stopping →
        t = { s with roll := t.roll } ∧ t.stand (otherStand x) = s.stand (otherStand x) ∧
        ((s.stand x).step + 1 < (s.stand x).steps →
          t.stand x = { s.stand x with step := (s.stand x).step + 1, brake := false } ∧
            t.roll = { s.roll with standA := t.roll.standA, standB := t.roll.standB, arm := false }) ∧
        ((s.stand x).steps ≤ (s.stand x).step + 1 →
          t.roll = { s.roll with standA := t.roll.standA, standB := t.roll.standB } ∧
            t.stand x =
              { s.stand x with
                role :=
                  (match (s.stand x).diam with
                   | none => none
                   | some d =>
                     if (s.entry (match x with | .a => 12 | .b => 13)).state = .lost then some .notReady
                     else if d = 0 then some .absent else if s.par 33 < d then some .ready else some .notReady)
                step := 0, steps := 0, brake := true }))

/-- The warm class, of the panel at the blade, else of the first PANEL of the plan, and the zones in band for it: every
zone that exists has a reading within the class's tolerance of its setpoint there (R108). As commands of their own
(notes/assumptions/3.md). WARMUP_FINISH and WARMUP_TIMEOUT: warm-up ends: finished, in RUN, with the hand-over test of
that entry, once the zones have been in band for WARM_STABLE (R71, R109, R158, R160); timed out, in HALTING with fault
341, once WARM_TIMEOUT has passed with a zone out of band (R109, R110, R160); the cause WARMUP_TIMEOUT where a HALT
reaction on FAULT_LATCHED is applied in the same event is the model's choice (notes/assumptions/45.md). STANDBY_WARNING
and STANDBY: in HALT, with steam enabled and no steam restriction or purge, the standby timer brings the phase to
WARNING at STANDBY_DELAY and to STANDBY at STANDBY_DELAY + STANDBY_WARN (R107). SIGNAL_LOSS: a signal is LOST with
fault 611 and SIGNAL_LOST (R174). RING_ERR_WINDOW_END: an error window ends with the budget reloaded (R178).
RESET_NOTICE_END: a reset notice count of 0 makes the notice 0, which outside a forwarded frame is the model's
(notes/assumptions/24.md). -/
def Obligations.CountsEnd : Prop :=
  (∀ s : State,
      (∀ id, s.bladePanel = some id → warmClass s = some id.cls) ∧
        (s.bladePanel = none →
          (∀ (i : Nat) (g : Seg) (id : PanelId), s.plan.segs[i]? = some g → g.kind = .panel id →
            (∀ (j : Nat) (h : Seg), j < i → s.plan.segs[j]? = some h → isPanel h.kind = false) →
            warmClass s = some id.cls) ∧
          ((∀ g ∈ s.plan.segs, isPanel g.kind = false) → warmClass s = none)) ∧
        (zonesInBand s = true ↔
          ∃ c, warmClass s = some c ∧ ∀ z, 1 ≤ z → z ≤ s.par 10 →
            ∃ v, s.zone z = some v ∧ (s.cls c).sets.getD (z - 1) 0 ≤ v + (s.cls c).tol ∧
              v ≤ (s.cls c).sets.getD (z - 1) 0 + (s.cls c).tol)) ∧
    (∀ (s : State) (e : Nat), s.mode.mode = .warmup → zonesInBand s = true → s.par 28 ≤ s.heat.stable + e →
      s.par 28 ≤ 16777215 →
      ∃ t, exec (.warmupFinish e) s = .next t ∧
        t = settle
              (handOver
                { s with
                  mode := { s.mode with mode := .run }
                  heat := { s.heat with
                            warm := min 16777215 (s.heat.warm + e)
                            stable := min 16777215 (s.heat.stable + e) } }) ∧
        t.ring = s.ring ∧ sameInputs s t ∧ (reactQuiet s → t.mode = { s.mode with mode := .run })) ∧
    (∀ (s : State) (e : Nat), s.mode.mode = .warmup → zonesInBand s = false → 1 ≤ s.par 28 →
      s.par 29 ≤ s.heat.warm + e → s.par 29 ≤ 16777215 →
      ∃ t, exec (.warmupTimeout e) s = .next t ∧
        t.mode = { mode := .halting, step := 0, cause := .warmupTimeout } ∧ speedsZero t ∧
        t.fault.flags.getLsbD 2 = true ∧ t.ring = s.ring ∧ sameInputs s t) ∧
    (∀ (s : State) (e : Nat), s.mode.mode = .halt → s.heat.steam = true → s.purgeActive = false →
      s.steamRestriction = .keep → s.heat.standbyTimer + e ≤ 16777215 →
      (s.heat.phase = .counting → s.par 30 ≤ s.heat.standbyTimer + e →
        s.heat.standbyTimer + e < s.par 30 + s.par 31 →
        ∃ t, exec (.standbyWarning e) s = .next t ∧ t.heat.phase = .warning ∧
          t.heat.standbyTimer = s.heat.standbyTimer + e ∧ t.mode = s.mode ∧ t.ring = s.ring ∧ sameInputs s t) ∧
      (s.heat.phase ≠ .standby → s.par 30 + s.par 31 ≤ s.heat.standbyTimer + e →
        ∃ t, exec (.standby e) s = .next t ∧ t.heat.phase = .standby ∧
          t.heat.standbyTimer = s.heat.standbyTimer + e ∧ t.mode = s.mode ∧ t.ring = s.ring ∧ sameInputs s t)) ∧
    (∀ (s : State) (i : Nat), i ≤ 13 → (s.entry i).slot.isSome = true → (s.entry i).state ≠ .lost →
      (s.entry i).stale ≤ 1 →
      ∃ t, exec (.signalLoss i) s = .next t ∧
        t.entry i = { s.entry i with stale := 0, state := .lost, lossOpen := true } ∧
        (∀ j, j ≠ i → t.entry j = s.entry j) ∧ t.cond .signalLost = true ∧ t.fault.flags.getLsbD 5 = true ∧
        t.ring = s.ring ∧ t.pos = s.pos ∧ t.table = s.table) ∧
    (∀ (s : State) (e : Nat), s.par 48 ≤ s.ring.window + e →
      ∃ t, exec (.ringErrWindowEnd e) s = .next t ∧ t.ring = { s.ring with budget := s.par 47, window := 0 } ∧
        t.cond .ringDegraded = (if 0 < s.ring.budget then false else s.cond .ringDegraded) ∧ sameInputs s t) ∧
    ∀ s : State, s.ring.notice = 0 →
      exec .resetNoticeEnd s = .next { s with ring := { s.ring with noticeShown := false } }

/-! ### Requests that read -/

/-- IDENTIFY, READ_LINE_PARAM, READ_CLASS, READ_SIGNAL, READ_REACTION and READ_SLOT: the answer in every state, and no
state changed (R201, R4, R91, R171, R184, R35, R36; word layouts R206). The silicon revision of IDENTIFY is a free
value (notes/assumptions/7.md); READ_SIGNAL's word list and a command signal's stored stale limit are
notes/assumptions/20.md; READ_SLOT's OUT_OF_RANGE before NOT_LOADED is notes/assumptions/38.md. The packed words: a
slot's state, use count and entry or written-index count; the table state and apply detail; a stored toggle and a
stored value, none included (R206); the codes of the other fields are in ViewImagesLaidOut. -/
def Obligations.ReadsAnswer : Prop :=
  (∀ p : PatSlot,
    slotSummary p =
      word ((match p.state with | .free => 0 | .opened => 1 | .ready => 2 | .locked => 3) + 256 * p.useCount +
        65536 *
          (if p.state = .ready ∨ p.state = .locked then p.entryCount.getD 0
           else ((List.range 64).filter fun i => p.written.getLsbD i).length))) ∧
  (∀ x : LineTable,
    tableWord x =
      word ((match x.state with | .unset => 0 | .edit => 1 | .set => 2) +
        256 * (match x.applyDetail with | some d => d | none => 0))) ∧
  ([none, some false, some true].map toggleWord = [4294967295, 0, 1] ∧ valueWord none = 4294967295 ∧
    ∀ v, valueWord (some v) = v) ∧
  (∀ (r : Request) (s : State), s.ring.bypass = false →
    exec (.identify r) s =
        .next (reply 1 r
          (match r.args with
           | [] => .done [86, 4620, Config.siliconRevision, s.ring.address.setWidth 32,
                          match s.table.state with | .unset => 0 | .edit => 1 | .set => 2]
           | _ => .malformed) s) ∧
      exec (.readLineParam r) s =
        .next (reply 5 r
          (match r.args with
           | [image, first, count] =>
             if image.toNat ≤ 1 ∧ 1 ≤ count.toNat ∧ count.toNat ≤ 15 ∧ 1 ≤ first.toNat ∧
                 first.toNat + count.toNat - 1 ≤ 50 then
               .done (tableWord s.table ::
                 (((if image = 0 then s.table.edit else s.table.applied).drop (first.toNat - 1)).take
                   count.toNat).map word)
             else .refused .noSuchParam 0
           | _ => .malformed) s) ∧
      exec (.readClass r) s =
        .next (reply 10 r
          (match r.args with
           | [n] =>
             if n.toNat ≤ 15 then
               .done (word (bit (s.cls n.toNat).isDefined + 256 * (s.cls n.toNat).useCount) ::
                 word (s.cls n.toNat).minDwell :: word (s.cls n.toNat).targetDwell :: word (s.cls n.toNat).maxDwell ::
                 word (s.cls n.toNat).tol :: word (s.cls n.toNat).bandAllow :: (s.cls n.toNat).sets.map word)
             else .malformed
           | _ => .malformed) s) ∧
      exec (.readSignal r) s =
        .next (reply 8 r
          (match r.args with
           | [i] =>
             if 26 < i.toNat then .malformed
             else
               .done ([word ((s.entry i.toNat).slot.getD 64), word (s.entry i.toNat).nodeKind,
                       word (s.entry i.toNat).staleLimit] ++
                 (if i.toNat ≤ 13 then
                   [word (sigCode (s.entry i.toNat).state), word (s.entry i.toNat).stale,
                    toggleWord (s.entry i.toNat).toggle, valueWord (s.entry i.toNat).lastGood,
                    flagWord (s.entry i.toNat).lossOpen, flagWord (s.entry i.toNat).nodeOpen,
                    flagWord (s.entry i.toNat).kindOpen]
                  else [flagWord (s.entry i.toNat).kindOpen]))
           | _ => .malformed) s) ∧
      exec (.readReaction r) s =
        .next (reply 23 r
          (match r.args with
           | [i] =>
             if 7 < i.toNat then .malformed
             else
               .done [flagWord (s.reaction i.toNat).enabled, (s.reaction i.toNat).trigger.setWidth 32,
                      word (s.reaction i.toNat).priority, word (actionCode (s.reaction i.toNat).modeAction),
                      optWord (s.reaction i.toNat).speedCap, word (steamCode (s.reaction i.toNat).steamAction),
                      word (s.reaction i.toNat).purgeCycles, flagWord (s.reaction i.toNat).inhibit,
                      flagWord (s.reaction i.toNat).autoClear, word (reactCode (s.reaction i.toNat).state),
                      word (s.reaction i.toNat).remaining, flagWord (decide ((s.reaction i.toNat).state = .purge))]
           | _ => .malformed) s)) ∧
    ∀ (r : Request) (s : State), s.ring.bypass = false →
      (r.args.length ≠ 3 → exec (.readSlot r) s = .next (reply 15 r .malformed s)) ∧
      ∀ (n first k : Word) (p : PatSlot), r.args = [n, first, k] → p = s.slot n.toNat →
        exec (.readSlot r) s =
          .next (reply 15 r
            (if 31 < n.toNat then .refused .noSuchSlot 0
             else if k = 0 then
              .done ([slotSummary p] ++
                (match p.totals with
                 | some t => [word t.n, word t.f, word t.o, word t.pMin, word t.dMax, word t.ratio]
                 | none => [0, 0, 0, 0, 0, 0]) ++
                [p.closeSum.getD 0, p.written.extractLsb' 0 32, p.written.extractLsb' 32 32])
             else if 7 < k.toNat ∨ 63 < first.toNat + k.toNat - 1 then .refused .outOfRange 0
             else if p.state = .free then .refused .notLoaded 0
             else if p.state ≠ .opened ∧ p.entryCount.getD 0 ≤ first.toNat + k.toNat - 1 then .refused .outOfRange 0
             else .done (slotSummary p :: ((p.entries.drop first.toNat).take k.toNat).flatMap fun e => [e.1, e.2])) s)

/-- READ_VIEW: the fixed image from a word on, or the count of the records and as many as fit from a record on, and
no state changed (R202). -/
def Obligations.ViewsRead : Prop :=
  ∀ (r : Request) (s : State), s.ring.bypass = false →
    (∀ view part first : Word, r.args = [view, part, first] →
      exec (.readView r) s =
        .next (reply 26 r
          (if 6 < view.toNat ∨ 1 < part.toNat then .malformed
           else if part = 0 then .done (((viewImage view.toNat s).drop first.toNat).take 16)
           else
             match view.toNat with
             | 1 =>
               .done (word s.plan.segs.length :: ((s.plan.segs.drop first.toNat).take 3).flatMap planRecordWords)
             | 2 =>
               .done (word s.plan.setMap.length :: ((s.plan.setMap.drop first.toNat).take 1).flatMap setRecordWords)
             | 3 => .done (word s.heat.cells.length :: ((s.heat.cells.drop first.toNat).take 5).flatMap cellWords)
             | _ => .malformed) s)) ∧
      (r.args.length ≠ 3 → exec (.readView r) s = .next (reply 26 r .malformed s))

/-- The fixed image of each view, word by word, the words of a plan record, a set-map record and a cell, and the codes
and words they are written in (R206, R207, R208, R18, R62, R88, R112, R126, R153, R191); the parts of the restriction
and the purge timer's holder that CONDITIONS shows (R188, R186). A position of none in both its words is
notes/assumptions/41.md; STANDS' codes of the sequencer are notes/assumptions/22.md; what a record that is no PANEL
shows in the fields of a PANEL is notes/assumptions/42.md; a zone that does not exist shows none
(notes/assumptions/12.md). -/
def Obligations.ViewImagesLaidOut : Prop :=
  ((∀ n, wideWords n = [word (n / 4294967296), word n] ∧ optWideWords (some n) = wideWords n ∧
        optWord (some n) = word n ∧ lengthWord n = word (min n 4294967295)) ∧
      optWord none = 4294967295 ∧ optWideWords none = [4294967295, 4294967295] ∧ flagWord false = 0 ∧
      flagWord true = 1 ∧ bit false = 0 ∧ bit true = 1) ∧
    ((∀ id, [.panel id, .gap, .window, .splice].map kindCode = [0, 1, 2, 3]) ∧
      [Mode.halt, .halting, .thread, .warmup, .run, .hold, .drain].map modeCode = List.range 7 ∧
      (∀ i, [HaltCause.none, .request, .reaction i, .warmupTimeout, .drainEnd, .ringLost, .positionRange].map
        causeCode = List.range 7 ∧ causeIndex (.reaction i) = i) ∧
      [Role.active, .incoming, .stopping, .ready, .notReady, .absent].map roleCode = List.range 6 ∧
      [SeqState.idle, .armed, .prepare, .paste, .cut, .settle].map seqCode = List.range 6 ∧
      [LimitCause.request, .dwell, .stroke, .splice, .mode, .reaction].map limitCode = List.range 6 ∧
      [SigState.unmapped, .awaiting, .fresh, .lost].map sigCode = List.range 4 ∧
      [ReactState.idle, .waiting, .purge, .applied].map reactCode = List.range 4 ∧
      [Disposition.none, .remade, .remakeLimit, .planFull].map dispositionCode = List.range 4 ∧
      [BladeStatus.ready, .busy, .parked, .fault].map bladeCode = List.range 4 ∧
      [SteamAction.keep, .standby, .close, .vent].map steamCode = List.range 4 ∧
      [StandbyPhase.none, .counting, .warning, .standby].map phaseCode = List.range 4 ∧
      [WinStatus.none, .pending, .reserved, .committed].map winCode = List.range 4 ∧
      [none, some Reject.underset, some .overset, some .band, some .splice, some .stroke, some .aborted,
        some .halted].map outcomeCode = List.range 8 ∧
      [WalkStatus.walking, .ended, .aborted].map walkCode = List.range 3 ∧
      [ModeAction.none, .hold, .halt].map actionCode = List.range 3 ∧ [Dir.left, .right].map dirCode = List.range 2 ∧
      [Stand.a, .b].map standCode = List.range 2) ∧
    (∀ s : State,
      viewImage 0 s =
        [word (s.pos.flat.fine / 65536 / 4294967296), word (s.pos.flat.fine / 65536),
         word (s.pos.flat.fine % 65536), word (s.pos.conv.fine / 65536 / 4294967296), word (s.pos.conv.fine / 65536),
         word (s.pos.conv.fine % 65536), word ((s.pos.flat.fine / 65536 + s.par 6) / 4294967296),
         word (s.pos.flat.fine / 65536 + s.par 6), word (s.pos.flat.excess / 4294967296), word s.pos.flat.excess,
         word (s.pos.conv.excess / 4294967296), word s.pos.conv.excess, s.pos.flat.baseline, word s.pos.flat.since,
         s.pos.conv.baseline, word s.pos.conv.since,
         word (bit s.pos.flat.valid + 2 * bit s.pos.conv.valid + 4 * bit s.pos.flat.jumpOpen
           + 8 * bit s.pos.conv.jumpOpen + 16 * bit (s.cond .webReverse) + 32 * bit s.pos.flat.saturated
           + 64 * bit s.pos.conv.saturated + 128 * bit s.pos.lastCycle.isNone),
         word (match s.pos.lastCycle with | some c => c.toNat | none => 0), word s.pos.elapsed]) ∧
    (∀ (s : State) (none4 : List Word), none4 = List.replicate 4 4294967295 →
      viewImage 1 s =
        (match s.fold.seg with
         | some g => [word g.serial.toNat, word (kindCode g.kind)] ++ wideWords g.start ++ [lengthWord g.len]
         | none => 4294967295 :: none4) ++
        (match s.bladePanel, s.walk with
         | some id, some w => [word id.order, word id.remake, word id.slot, word (walkCode w.status)]
         | _, _ => none4) ++
        (match s.walk with
         | some w =>
           (match w.status, w.pending with
            | .walking, some f => [word f.k] ++ wideWords f.fire ++ [word (dirCode f.dir), word f.depth]
            | _, _ => 4294967295 :: none4) ++
             [word w.folds, lengthWord w.maxLate, word w.flatDone, word w.outDone]
         | none => 4294967295 :: none4 ++ none4) ++
        [word s.fold.held.toNat, optWord (s.fold.stroke.map (·.age)), optWord (s.fold.stroke.map (·.panel.toNat)),
         flagWord s.bladeStroke, optWord (s.fold.status.map bladeCode), word s.fold.done.toNat,
         word (bit s.fold.synced + 2 * bit s.fold.stroke.isSome + 4 * bit (s.cond .bladeOverrun)
           + 8 * bit (s.cond .bladeFault) + 16 * bit (s.cond .planEmpty)),
         word s.plan.segs.length, word (s.planOrigin / 4294967296), word s.planOrigin,
         word (s.planEnd / 4294967296), word s.planEnd,
         optWord ((s.plan.segs.find? fun g => g.kind == .window).map (·.serial.toNat))]) ∧
    (∀ (kind : SegKind) (o n : Nat),
      (o, n) =
        (match kind with
         | .panel id => (id.order, 16 * id.remake + 256 * id.slot + 65536 * id.cls)
         | _ => (0, 0)) →
      (∀ g : Seg, g.kind = kind →
        planRecordWords g =
          [word (65536 * o + g.serial.toNat), word (kindCode kind + 4 * bit g.anchored + n),
           word (g.start / 4294967296), word g.start, lengthWord g.len]) ∧
      ∀ r : SetRec, r.kind = kind →
        setRecordWords r =
          [word (65536 * o + r.serial.toNat),
           word (kindCode kind + 4 * bit r.splice + 8 * bit r.verdict.isSome + 64 * dispositionCode r.disposition + n
             + 16777216 * outcomeCode r.first),
           word (r.rejects.toNat + 256 * r.cells + 65536 * r.folds), lengthWord r.maxLate,
           word (r.start / 4294967296), word r.start, lengthWord r.len, word (r.head / 4294967296), word r.head,
           lengthWord r.outLen, optWord r.minAge, optWord r.maxAge, word r.maxExposure]) ∧
    (∀ s : State,
      viewImage 2 s = [word s.plan.setMap.length, word s.plan.cutSerial.toNat, flagWord s.plan.divert]) ∧
    (∀ c : Cell,
      cellWords c =
        [match c.owner with | some o => word o.toNat | none => 4294967295, word c.age, word c.exposure]) ∧
    (∀ (s : State) (reading target : Nat → Option Nat) (set : Nat → Word),
      (∀ z, reading z = if z ≤ s.par 10 then s.zone z else none) →
      (∀ z, target z = if z ≤ s.par 10 then targetClass s z else none) →
      (∀ z, set z = word ((zoneCommand s z).1 + 2147483648 * bit (zoneCommand s z).2)) →
      viewImage 3 s =
        [word s.heat.cells.length, word s.heat.acc, optWord (reading 1), optWord (reading 2), optWord (reading 3),
         optWord (reading 4), optWord (target 1), optWord (target 2), optWord (target 3), optWord (target 4), set 1,
         set 2, set 3, set 4, flagWord (s.purgeActive || decide (s.steamRestriction = .vent)),
         word (bit s.heat.steam + 2 * bit (s.cond .overdwell) + 4 * bit (s.cond .pressureLow)
           + 8 * bit (s.cond .zoneOver)),
         word (steamCode s.steamRestriction), word (phaseCode s.heat.phase), word s.heat.standbyTimer,
         optWord (warmClass s), word s.heat.stable, word s.heat.warm] ∧
      (∀ id, s.bladePanel = some id → warmClass s = some id.cls) ∧
      (s.bladePanel = none →
        (∀ (i : Nat) (g : Seg) (id : PanelId), s.plan.segs[i]? = some g → g.kind = .panel id →
          (∀ (j : Nat) (h : Seg), j < i → s.plan.segs[j]? = some h → isPanel h.kind = false) →
          warmClass s = some id.cls) ∧
        ((∀ g ∈ s.plan.segs, isPanel g.kind = false) → warmClass s = none))) ∧
    (∀ (s : State) (stand : Stand → List Word),
      (∀ x, stand x =
        [optWord ((s.stand x).role.map roleCode), optWord (s.stand x).diam, optWord (s.stand x).speed,
         word (sigCode (s.entry (match x with | .a => 12 | .b => 13)).state
           + 4 * sigCode (s.entry (match x with | .a => 9 | .b => 10)).state + 16 * bit (s.present x)
           + 256 * (s.stand x).step + 1024 * (s.stand x).steps),
         word ((match x with | .a => s.gov.standA | .b => s.gov.standB) + 2147483648 * bit (s.stand x).brake)]) →
      viewImage 4 s =
        stand .a ++ stand .b ++
          [word (seqCode s.roll.state), optWord (s.roll.incoming.map standCode),
           word (bit s.roll.forced + 2 * bit s.roll.matched + 4 * bit s.roll.hold + 8 * bit s.roll.failed
             + 16 * bit s.roll.noStandby + 32 * bit s.roll.synced + 64 * bit s.roll.pasteFlight
             + 128 * bit s.roll.cutFlight + 256 * bit (s.cond .webEnd) + 512 * bit (s.cond .spliceFailed)),
           word (winCode s.roll.winStatus), optWord (s.roll.winSerial.map (·.toNat))] ++
          optWideWords
            (if s.roll.winStatus = .reserved ∨ s.roll.winStatus = .committed then
               (s.plan.segs.find? fun g => g.kind == .window).map (·.start)
             else none) ++
          optWideWords s.roll.pastePos ++
          [word s.roll.matchCount, word s.roll.matchTimer, word s.roll.confirmAge, word s.roll.settleCount,
           word s.roll.missCount,
           word (s.roll.pasteSerial.toNat + 256 * s.roll.cutSerial.toNat + 65536 * bit s.roll.arm
             + 131072 * standCode s.roll.armStand),
           word (s.roll.lastPaste.toNat + 256 * s.roll.lastCut.toNat)] ∧
      ∀ x, s.present x = true ↔
        (∃ d, (s.stand x).diam = some d ∧ 0 < d) ∧ (s.entry (match x with | .a => 12 | .b => 13)).state ≠ .lost) ∧
    (∀ s : State,
      viewImage 5 s =
        [word s.gov.request, optWord s.gov.limits.request, optWord s.gov.limits.dwell, optWord s.gov.limits.stroke,
         optWord s.gov.limits.splice, optWord s.gov.limits.mode, optWord s.gov.limits.reaction, word s.gov.target,
         word (limitCode s.gov.cause), word s.gov.conv, word s.gov.ratio, word s.gov.feed, flagWord s.gov.saturated,
         word s.gov.standA, word s.gov.standB, word s.gov.governed, optWord (s.gov.dwellSerial.map (·.toNat)),
         optWord (s.gov.strokeSerial.map (·.toNat))]) ∧
    ∀ (s : State) (samples : SigState → Nat),
      (∀ st, samples st = ((s.sig.entries.take 14).filter fun g => decide (g.state = st)).length) →
      viewImage 6 s =
        [word (modeCode s.mode.mode), word s.mode.step, word (causeCode s.mode.cause + 256 * causeIndex s.mode.cause),
         word s.react.marks.toNat] ++
          s.react.entries.map (fun p => word (reactCode p.state + 65536 * p.remaining)) ++
          [optWord s.purgeHolder,
           word (actionCode (modeRestriction s) + 16 * steamCode s.steamRestriction + 256 * bit s.inhibited
             + 512 * bit s.purgeHolder.isSome),
           optWord s.speedCap, word s.ring.budget, word s.ring.window,
           word (bit (decide (s.par 49 = 1)) + 2 * bit s.sig.estop.asserted + 4 * bit s.sig.estop.latch
             + 16 * bit (decide (s.par 50 = 1)) + 32 * bit s.sig.guard.asserted + 64 * bit s.sig.guard.latch),
           word (samples .awaiting + 256 * samples .fresh + 65536 * samples .lost)] ∧
      (∀ i, s.purgeHolder = some i ↔
        (∃ p, s.react.entries[i]? = some p ∧ p.state = .purge) ∧
          ∀ j p, j < i → s.react.entries[j]? = some p → p.state ≠ .purge) ∧
      (∀ p ∈ s.react.entries, p.state = .applied → actionCode p.modeAction ≤ actionCode (modeRestriction s)) ∧
      (modeRestriction s = .none ∨ ∃ p ∈ s.react.entries, p.state = .applied ∧ p.modeAction = modeRestriction s) ∧
      (s.inhibited = true ↔ ∃ p ∈ s.react.entries, p.state ≠ .idle ∧ p.inhibit = true) ∧
      (s.speedCap = none ↔ ∀ p ∈ s.react.entries, p.state = .idle ∨ p.speedCap = none) ∧
      ∀ n, s.speedCap = some n →
        (∃ p ∈ s.react.entries, p.state ≠ .idle ∧ p.speedCap = some n) ∧
          ∀ p ∈ s.react.entries, ∀ m, p.state ≠ .idle → p.speedCap = some m → n ≤ m

/-! ### Requests that load the tables -/

/-- An accepted WRITE_LINE_PARAM stores its one to eight pairs in order in the edit image, and the table is in EDIT;
leaving SET removes the cell line and disables steam (R2, R1, R7). It is MALFORMED without words or with an odd number
of them, refused WRONG_MODE out of HALT and LINE_NOT_EMPTY on a line that is not empty, and at the first pair that
fails NO_SUCH_PARAM or OUT_OF_RANGE with the pair's index (R2). -/
def Obligations.LineParamsWritten : Prop :=
  ∀ (r : Request) (s : State), s.ring.bypass = false →
    (r.args = [] ∨ r.args.length % 2 = 1 →
      exec (.writeLineParam r) s = .next (reply 4 r .malformed s)) ∧
    ∀ pairs : List (Word × Word), 1 ≤ pairs.length → pairs.length ≤ 8 →
      r.args = pairs.flatMap (fun p => [p.1, p.2]) →
      (s.mode.mode ≠ .halt → exec (.writeLineParam r) s = .next (reply 4 r (.refused .wrongMode 0) s)) ∧
      (s.mode.mode = .halt → s.plan.segs ≠ [] ∨ s.plan.setMap ≠ [] ∨ s.fold.seg ≠ none →
        exec (.writeLineParam r) s = .next (reply 4 r (.refused .lineNotEmpty 0) s)) ∧
      (s.mode.mode = .halt → s.plan.segs = [] → s.plan.setMap = [] → s.fold.seg = none →
        (∀ i p, pairs[i]? = some p →
          (∀ j q, j < i → pairs[j]? = some q → 1 ≤ q.1.toNat ∧ q.1.toNat ≤ 50 ∧ paramInRange q.1.toNat q.2 = true) →
          (p.1.toNat < 1 ∨ 50 < p.1.toNat →
            exec (.writeLineParam r) s = .next (reply 4 r (.refused .noSuchParam i) s)) ∧
          (1 ≤ p.1.toNat → p.1.toNat ≤ 50 → paramInRange p.1.toNat p.2 = false →
            exec (.writeLineParam r) s = .next (reply 4 r (.refused .outOfRange i) s))) ∧
        ((∀ p ∈ pairs, 1 ≤ p.1.toNat ∧ p.1.toNat ≤ 50 ∧ paramInRange p.1.toNat p.2 = true) →
          ∃ t, exec (.writeLineParam r) s = .next t ∧
            t.table =
              { s.table with
                state := .edit, edit := pairs.foldl (fun im p => im.set (p.1.toNat - 1) p.2.toNat) s.table.edit } ∧
            (s.table.state = .set → t.heat.cells = [] ∧ t.heat.steam = false) ∧
            t.ring = (reply 4 r (.done []) s).ring ∧ t.sig = s.sig ∧ t.pos = s.pos ∧ t.mode = s.mode))

/-- APPLY_LINE: nothing in SET; the number of the first failing cross-check, of the eight of R5 on the edit image,
refuses it and is kept as apply detail; otherwise the edit image is applied, the table is SET, and every block of R6
follows: cell line and accumulator, ZONE_OVER, budget and window, the latch of a trip input whose mode changed with its
condition, WEB_REVERSE, origin mark, the derived roles of the stands that no rule has given a role, and WEB_END (R5,
R6, R129, R132, R179). BOX_LEN in check 3 is the edit image's (notes/assumptions/37.md). -/
def Obligations.LineTableApplied : Prop :=
  (∀ (r : Request) (s : State), s.ring.bypass = false → r.args = [] →
    (s.table.state = .set → exec (.applyLine r) s = .next (reply 6 r (.done []) s)) ∧
    (s.table.state ≠ .set → s.mode.mode = .halt → s.plan.segs = [] → s.plan.setMap = [] → s.fold.seg = none →
      (∀ n, failedCheck s.table.edit = some n →
        exec (.applyLine r) s =
          .next (reply 6 r (.refused .crossCheck n) { s with table := { s.table with applyDetail := some n } })) ∧
      (failedCheck s.table.edit = none →
        ∃ t, exec (.applyLine r) s = .next t ∧
          t.table = { state := .set, edit := s.table.edit, applied := s.table.edit, applyDetail := none } ∧
          t.heat.cells = List.replicate (t.par 9) { owner := none, age := 0, exposure := 0 } ∧ t.heat.acc = 0 ∧
          t.heat.zones = s.heat.zones ∧ t.plan = { s.plan with originMark := s.pBlade } ∧
          t.ring = { (reply 6 r (.done []) s).ring with budget := t.par 47, window := 0 } ∧ t.pos = s.pos ∧
          t.sig.entries = s.sig.entries ∧ t.fold = s.fold ∧ t.mode = s.mode ∧
          (t.cond .webReverse = true ↔ t.par 5 * 65536 < s.pos.flat.excess) ∧
          (t.cond .zoneOver = true ↔ ∃ z v, 1 ≤ z ∧ z ≤ t.par 10 ∧ s.zone z = some v ∧ t.par 26 < v) ∧
          t.cond .overdwell = false ∧
          (∀ (x : TripInput) (m : Nat) (c : Cond),
            (m, c) = (match x with | .estop => (49, .estop) | .guard => (50, .guard)) →
            (t.par m = s.par m → t.trip x = s.trip x ∧ t.cond c = s.cond c) ∧
              (t.par m ≠ s.par m → t.trip x = { s.trip x with latch := false } ∧
                t.cond c = if t.par m = 0 then (s.trip x).asserted else false)) ∧
          t.roll = { s.roll with standA := t.roll.standA, standB := t.roll.standB } ∧
          (∀ x, t.stand x =
            if givenRole (s.stand x).role = true then s.stand x
            else
              { s.stand x with
                role :=
                  (match (s.stand x).diam with
                   | none => none
                   | some d =>
                     if (s.entry (match x with | .a => 12 | .b => 13)).state = .lost then some .notReady
                     else if d = 0 then some .absent else if t.par 33 < d then some .ready else some .notReady)
                step := 0, steps := 0, brake := true }) ∧
          (t.cond .webEnd = true ↔ ∃ x, s.activeStand = some x ∧
            ((∃ d, (s.stand x).diam = some d ∧ d ≤ t.par 35) ∨
              (s.entry (match x with | .a => 12 | .b => 13)).state = .lost))))) ∧
    ∀ (image : List Nat) (p first : Nat → Nat) (holds : Nat → Prop), (∀ n, p n = image.getD (n - 1) 0) →
      (∀ z, first z = if z ≤ 1 then 0 else p (9 + z)) →
      (∀ n, holds n ↔
        match n with
        | 1 => p 9 * p 8 ≤ 2000000
        | 2 => (∀ z, 2 ≤ z → z ≤ p 10 → first (z - 1) + 2 ≤ first z) ∧ first (p 10) + 2 ≤ p 9
        | 3 => p 7 + p 9 * p 8 + 2 * p 8 ≤ p 14
        | 4 => p 14 ≤ 124 * p 8
        | 5 => p 35 < p 34 ∧ p 34 < p 33
        | 6 => 2 * p 45 + p 42 ≤ p 44
        | 7 => p 46 ≤ p 21
        | 8 => p 22 ≤ p 21
        | _ => True) →
      (∀ n, failedCheck image = some n ↔ ¬ holds n ∧ ∀ m, m < n → holds m) ∧
        (failedCheck image = none ↔ ∀ n, holds n)

/-- An accepted WRITE_SIGNAL writes the three fields and restarts a sample's supervision, keeping its last good value;
a command's kind-mismatch episode closes; no other signal changes (R170; that a
command signal stores its stale limit word: notes/assumptions/20.md). -/
def Obligations.SignalsMapped : Prop :=
  ∀ (r : Request) (s : State) (i k kind limit : Word), s.ring.bypass = false → r.args = [i, k, kind, limit] →
    i.toNat ≤ 26 → s.mode.mode = .halt → k.toNat ≤ 64 → kind.toNat ≤ 255 →
    (i.toNat ≤ 13 → 1 ≤ limit.toNat ∧ limit.toNat ≤ 255) → s.sig.entries.length = 27 →
    (∀ j, j ≠ i.toNat → (s.entry j).slot = some k.toNat → k.toNat = 64) →
    ∃ t, exec (.writeSignal r) s = .next t ∧ t.ring = (reply 7 r (.done []) s).ring ∧
      (t.entry i.toNat).slot = (if k.toNat = 64 then none else some k.toNat) ∧
      (t.entry i.toNat).nodeKind = kind.toNat ∧ (t.entry i.toNat).staleLimit = limit.toNat ∧
      (t.entry i.toNat).kindOpen = false ∧ (t.entry i.toNat).lastGood = (s.entry i.toNat).lastGood ∧
      (i.toNat ≤ 13 →
        (t.entry i.toNat).state = (if k.toNat = 64 then .unmapped else .awaiting) ∧
        (t.entry i.toNat).stale = (if k.toNat = 64 then 0 else limit.toNat) ∧ (t.entry i.toNat).toggle = none ∧
        (t.entry i.toNat).lossOpen = false ∧ (t.entry i.toNat).nodeOpen = false) ∧
      (∀ j, j ≠ i.toNat → t.entry j = s.entry j) ∧ t.pos = s.pos ∧ t.table = s.table ∧ t.mode = s.mode

/-- A WRITE_CLASS on its eleven words: MALFORMED for a class above 15 or a flag above 1; IN_USE for a class in use; d
= 0 undefines the class; the argument index, 2 to 10, of the first bad field refuses it, the chain of the dwells and
the four setpoints included; otherwise the class has its nine values. Nothing else changes (R90, R89; a broken dwell
chain names the later word: notes/assumptions/34.md). -/
def Obligations.ClassesWritten : Prop :=
  ∀ (r : Request) (s : State) (n d minD target maxD tol allow s1 s2 s3 s4 : Word), s.ring.bypass = false →
    r.args = [n, d, minD, target, maxD, tol, allow, s1, s2, s3, s4] →
    (15 < n.toNat ∨ 1 < d.toNat → exec (.writeClass r) s = .next (reply 9 r .malformed s)) ∧
    (n.toNat ≤ 15 → d.toNat ≤ 1 → 0 < (s.cls n.toNat).useCount →
      exec (.writeClass r) s = .next (reply 9 r (.refused .inUse 0) s)) ∧
    (n.toNat ≤ 15 → (s.cls n.toNat).useCount = 0 →
      (d = 0 →
        exec (.writeClass r) s =
          .next (reply 9 r (.done [])
            { s with
              heat := { s.heat with
                        classes := s.heat.classes.set n.toNat
                          { isDefined := false, minDwell := 0, targetDwell := 0, maxDwell := 0, tol := 0,
                            bandAllow := 0, sets := [0, 0, 0, 0], useCount := 0 } } })) ∧
      (d = 1 → ∀ bad : Nat → Prop,
        (∀ i, bad i ↔
          match i with
          | 2 => minD.toNat < 100 ∨ 600000 < minD.toNat
          | 3 => target.toNat < 100 ∨ 600000 < target.toNat ∨ target.toNat < minD.toNat
          | 4 => maxD.toNat < 100 ∨ 600000 < maxD.toNat ∨ maxD.toNat < target.toNat
          | 5 => tol.toNat < 5 ∨ 200 < tol.toNat
          | 6 => 60000 < allow.toNat
          | 7 => 2500 < s1.toNat
          | 8 => 2500 < s2.toNat
          | 9 => 2500 < s3.toNat
          | 10 => 2500 < s4.toNat
          | _ => False) →
        (∀ i, bad i → (∀ j, j < i → ¬ bad j) →
          exec (.writeClass r) s = .next (reply 9 r (.refused .outOfRange i) s)) ∧
        ((∀ i, ¬ bad i) →
          exec (.writeClass r) s =
            .next (reply 9 r (.done [])
              { s with
                heat := { s.heat with
                          classes := s.heat.classes.set n.toNat
                            { isDefined := true, minDwell := minD.toNat, targetDwell := target.toNat,
                              maxDwell := maxD.toNat, tol := tol.toNat, bandAllow := allow.toNat,
                              sets := [s1.toNat, s2.toNat, s3.toNat, s4.toNat], useCount := 0 } } }))))

/-- OPEN_SLOT and RELEASE_SLOT: a word more or less is MALFORMED and a slot above 31 NO_SUCH_SLOT; the slot is made
OPEN or FREE with its load cleared, and a LOCKED slot is IN_USE; nothing else changes (R24, R34). WRITE_ENTRIES: its
form, NO_SUCH_SLOT, NOT_OPEN, OUT_OF_RANGE, and the k entries stored at their indices, each index joining the
written-index set and no other entry changing (R25). A slot holds 64 entries, as TablesKept says. -/
def Obligations.SlotsLoaded : Prop :=
  (∀ (r : Request) (s : State), s.ring.bypass = false →
      (r.args.length ≠ 1 →
        exec (.openSlot r) s = .next (reply 11 r .malformed s) ∧
        exec (.releaseSlot r) s = .next (reply 14 r .malformed s)) ∧
      (r.args.length < 4 ∨ 16 < r.args.length ∨ r.args.length % 2 = 1 →
        exec (.writeEntries r) s = .next (reply 12 r .malformed s))) ∧
    (∀ (r : Request) (s : State) (n : Word) (p : PatSlot), s.ring.bypass = false → r.args = [n] → p = s.slot n.toNat →
      (31 < n.toNat →
        exec (.openSlot r) s = .next (reply 11 r (.refused .noSuchSlot 0) s) ∧
        exec (.releaseSlot r) s = .next (reply 14 r (.refused .noSuchSlot 0) s)) ∧
      (n.toNat ≤ 31 →
        (p.state = .locked →
          exec (.openSlot r) s = .next (reply 11 r (.refused .inUse 0) s) ∧
          exec (.releaseSlot r) s = .next (reply 14 r (.refused .inUse 0) s)) ∧
        (p.state ≠ .locked →
          exec (.openSlot r) s =
            .next (reply 11 r (.done [])
              { s with
                pat := s.pat.set n.toNat
                  { state := .opened, entries := List.replicate 64 (0, 0), written := 0, entryCount := none,
                    closeSum := none, totals := none, useCount := p.useCount } })) ∧
        (p.state = .opened ∨ p.state = .ready →
          exec (.releaseSlot r) s =
            .next (reply 14 r (.done [])
              { s with
                pat := s.pat.set n.toNat
                  { state := .free, entries := List.replicate 64 (0, 0), written := 0, entryCount := none,
                    closeSum := none, totals := none, useCount := p.useCount } })) ∧
        (p.state = .free → exec (.releaseSlot r) s = .next (reply 14 r (.done []) s)))) ∧
    ∀ (r : Request) (s : State) (n first : Word) (es : List (Word × Word)) (p : PatSlot), s.ring.bypass = false →
      r.args = n :: first :: es.flatMap (fun e => [e.1, e.2]) → 1 ≤ es.length → es.length ≤ 7 → p = s.slot n.toNat →
      (31 < n.toNat → exec (.writeEntries r) s = .next (reply 12 r (.refused .noSuchSlot 0) s)) ∧
      (n.toNat ≤ 31 → p.state ≠ .opened → exec (.writeEntries r) s = .next (reply 12 r (.refused .notOpen 0) s)) ∧
      (n.toNat ≤ 31 → p.state = .opened → 63 < first.toNat + es.length - 1 →
        exec (.writeEntries r) s = .next (reply 12 r (.refused .outOfRange 0) s)) ∧
      (n.toNat ≤ 31 → p.state = .opened → first.toNat + es.length - 1 ≤ 63 →
        ∃ q : PatSlot,
          exec (.writeEntries r) s = .next (reply 12 r (.done []) { s with pat := s.pat.set n.toNat q }) ∧
          q.entries.length = p.entries.length ∧
          (∀ i, i < p.entries.length → q.entries[i]? =
            if first.toNat ≤ i ∧ i < first.toNat + es.length then es[i - first.toNat]? else p.entries[i]?) ∧
          (∀ i, i < 64 → q.written.getLsbD i =
            (p.written.getLsbD i || decide (first.toNat ≤ i ∧ i < first.toNat + es.length))) ∧
          q = { p with entries := q.entries, written := q.written })

/-- The nine close checks on entries 0 to c − 1: which fails first, and the entry index it gives (R27, R28, R29, R30).
The entries have the ranges that check 3 holds them to: no RAMP has fewer than 2 folds (R20, R28). CLOSE_SLOT of three
words is refused NO_SUCH_SLOT, NOT_OPEN or OUT_OF_RANGE (that order of the last two: notes/assumptions/38.md), else at
the first failing check with its number and entry index; a pattern that passes all nine becomes READY with its totals,
and the answer carries them (R26, R31). -/
def Obligations.SlotsClosed : Prop :=
  (∀ (p : PatSlot) (c : Nat) (sum : Word), c ≤ p.entries.length →
      (∀ i, i < c → p.written.getLsbD i = false → (∀ j, j < i → p.written.getLsbD j = true) →
        closeCheck p c sum = some (1, i)) ∧
      ((∀ i, i < c → p.written.getLsbD i = true) →
        (BitVec.ofNat 32 ((p.entries.take c).map fun w => w.1.toNat + w.2.toNat).sum ≠ sum →
          closeCheck p c sum = some (2, 64)) ∧
        (BitVec.ofNat 32 ((p.entries.take c).map fun w => w.1.toNat + w.2.toNat).sum = sum →
          (∀ i w, i < c → p.entries[i]? = some w → decodeEntry w = none →
            (∀ j v, j < i → p.entries[j]? = some v → decodeEntry v ≠ none) → closeCheck p c sum = some (3, i)) ∧
          ∀ es : List Entry, (p.entries.take c).map decodeEntry = es.map some →
            closeCheck p c sum = structureCheck es))) ∧
    (∀ es : List Entry, (∀ dir n p d0 d1, Entry.ramp dir n p d0 d1 ∈ es → 2 ≤ n) →
      (∀ i, es[i]? = some .groupEnd → groupsBetween es 0 i = 0 →
        (∀ j, j < i → es[j]? = some .groupEnd → 0 < groupsBetween es 0 j) → structureCheck es = some (4, i)) ∧
      ((∀ j, es[j]? = some .groupEnd → 0 < groupsBetween es 0 j) →
        (∀ i n, es[i]? = some (.groupBegin n) → groupOpenAt es i es.length = true →
          (∀ j m, i < j → es[j]? = some (.groupBegin m) → groupOpenAt es j es.length = false) →
          structureCheck es = some (4, i)) ∧
        (groupsBetween es 0 es.length = 0 →
          (∀ i n, es[i]? = some (.groupBegin n) → groupsBetween es 0 i = 3 →
            (∀ j m, j < i → es[j]? = some (.groupBegin m) → groupsBetween es 0 j < 3) →
            structureCheck es = some (5, i)) ∧
          ((∀ j m, es[j]? = some (.groupBegin m) → groupsBetween es 0 j < 3) →
            (∀ i n, es[i]? = some (.groupBegin n) → es[i + 1]? = some .groupEnd →
              (∀ j m, j < i → es[j]? = some (.groupBegin m) → es[j + 1]? ≠ some .groupEnd) →
              structureCheck es = some (6, i)) ∧
            ((∀ j m, es[j]? = some (.groupBegin m) → es[j + 1]? ≠ some .groupEnd) →
              ((∀ e ∈ es, entryPitch e = none) → structureCheck es = some (7, 64)) ∧
              ((∃ e ∈ es, entryPitch e ≠ none) →
                (∀ i, weighted entryFolds es i ≤ 4000 → 4000 < weighted entryFolds es (i + 1) →
                  structureCheck es = some (8, i)) ∧
                (weighted entryFolds es es.length ≤ 4000 →
                  (∀ i, weighted entryFlat es i ≤ 4000000 → 4000000 < weighted entryFlat es (i + 1) →
                    structureCheck es = some (9, i)) ∧
                  (weighted entryFlat es es.length ≤ 4000000 → structureCheck es = none)))))))) ∧
    (∀ (r : Request) (s : State), s.ring.bypass = false →
      (r.args.length ≠ 3 → exec (.closeSlot r) s = .next (reply 13 r .malformed s)) ∧
      ∀ n c sum : Word, r.args = [n, c, sum] →
        (31 < n.toNat → exec (.closeSlot r) s = .next (reply 13 r (.refused .noSuchSlot 0) s)) ∧
        (n.toNat ≤ 31 → (s.slot n.toNat).state ≠ .opened →
          exec (.closeSlot r) s = .next (reply 13 r (.refused .notOpen 0) s)) ∧
        (n.toNat ≤ 31 → (s.slot n.toNat).state = .opened → c = 0 ∨ 64 < c.toNat →
          exec (.closeSlot r) s = .next (reply 13 r (.refused .outOfRange 0) s))) ∧
    ∀ (r : Request) (s : State) (n c sum : Word) (p : PatSlot), s.ring.bypass = false → r.args = [n, c, sum] →
      n.toNat ≤ 31 → p = s.slot n.toNat → p.state = .opened → 1 ≤ c.toNat → c.toNat ≤ 64 →
      (∀ check index, closeCheck p c.toNat sum = some (check, index) →
        exec (.closeSlot r) s = .next (reply 13 r (.refused .closeCheck (256 * check + index)) s)) ∧
      (closeCheck p c.toNat sum = none →
        ∃ q t, q.state = .ready ∧ q.entryCount = some c.toNat ∧ q.closeSum = some sum ∧ q.written = 0 ∧
          q.totals = some t ∧ q.useCount = p.useCount ∧
          q.entries = p.entries.take c.toNat ++ List.replicate (64 - c.toNat) (0, 0) ∧
          t = totalsOf ((p.entries.take c.toNat).filterMap decodeEntry) ∧
          exec (.closeSlot r) s =
            .next (reply 13 r
              (.done [slotSummary q, word t.n, word t.f, word t.o, word t.pMin, word t.dMax, word t.ratio])
              { s with pat := s.pat.set n.toNat q }))

/-- The entry that two words carry, with the ranges of its fields; the folds, flat length and output length of an
entry; the depths and directions of a RAMP's folds; and the totals of a pattern, each entry counted times the repeats
of the groups that enclose it (R20, R21, R22, R32, R33, R205). -/
def Obligations.PatternTotals : Prop :=
  (∀ (w : Word × Word) (e : Entry),
      decodeEntry w = some e ↔
        match e with
        | .fold dir p d =>
          w.1.toNat = 268435456 + 67108864 * dirCode dir + p ∧ w.2.toNat = d ∧ 50 ≤ p ∧ p ≤ 20000 ∧ 100 ≤ d ∧ d ≤ 5000
        | .ramp dir n p d0 d1 =>
          w.1.toNat =
              536870912 + 67108864 * (match dir with | some x => dirCode x | none => 2) + 262144 * n + p ∧
            w.2.toNat = 65536 * d0 + d1 ∧ 2 ≤ n ∧ n ≤ 250 ∧ 50 ≤ p ∧ p ≤ 20000 ∧ 100 ≤ d0 ∧ d0 ≤ 5000 ∧ 100 ≤ d1 ∧
            d1 ≤ 5000
        | .space len => w.1.toNat = 805306368 ∧ w.2.toNat = len ∧ 1 ≤ len ∧ len ≤ 200000
        | .groupBegin n => w.1.toNat = 1073741824 + n ∧ w.2.toNat = 0 ∧ 2 ≤ n ∧ n ≤ 64
        | .groupEnd => w.1.toNat = 1342177280 ∧ w.2.toNat = 0) ∧
    (∀ e : Entry,
      (entryFolds e, entryFlat e, entryOut e, entryPitch e) =
        match e with
        | .fold _ p d => (1, p + 2 * d, p, some p)
        | .ramp _ n p d0 d1 => (n, n * p + 2 * ((List.range n).map (rampDepth n d0 d1)).sum, n * p, some p)
        | .space len => (0, len, len, none)
        | .groupBegin _ => (0, 0, 0, none)
        | .groupEnd => (0, 0, 0, none)) ∧
    (∀ n d0 d1 i : Nat, 2 ≤ n → i < n →
      (rampDepth n d0 d1 i : Int) =
          (if 0 ≤ ((d1 : Int) - d0) * i then d0 + (2 * (((d1 : Int) - d0) * i) + (n - 1)) / (2 * (n - 1))
           else d0 - (-2 * (((d1 : Int) - d0) * i) + (n - 1)) / (2 * (n - 1))) ∧
        rampDepth n d0 d1 0 = d0 ∧ rampDepth n d0 d1 (n - 1) = d1 ∧ min d0 d1 ≤ rampDepth n d0 d1 i ∧
        rampDepth n d0 d1 i ≤ max d0 d1) ∧
    (∀ i, rampDir (some .left) i = .left ∧ rampDir (some .right) i = .right ∧
      rampDir none i = if i % 2 = 0 then .left else .right) ∧
    ∀ es : List Entry,
      (totalsOf es).n = weighted entryFolds es es.length ∧ (totalsOf es).f = weighted entryFlat es es.length ∧
        (totalsOf es).o = weighted entryOut es es.length ∧
        (totalsOf es).ratio = weighted entryFlat es es.length * 65536 / weighted entryOut es es.length ∧
        ((∃ e ∈ es, entryPitch e ≠ none) →
          (∃ e ∈ es, entryPitch e = some (totalsOf es).pMin) ∧
            (∀ e ∈ es, ∀ p, entryPitch e = some p → (totalsOf es).pMin ≤ p) ∧
            (∃ e ∈ es, (∃ dir p, e = .fold dir p (totalsOf es).dMax) ∨
              ∃ dir n p d0 d1, e = .ramp dir n p d0 d1 ∧ max d0 d1 = (totalsOf es).dMax) ∧
            ∀ e ∈ es, (∀ dir p d, e = .fold dir p d → d ≤ (totalsOf es).dMax) ∧
              ∀ dir n p d0 d1, e = .ramp dir n p d0 d1 → max d0 d1 ≤ (totalsOf es).dMax)

/-! ### Requests at the plan and the blade -/

/-- Compatible classes, the separation length, the preceding panel of a point in the plan, and the moves of a slot
named once more or once less between READY and LOCKED (R65, R37). A PLAN_PANEL of three words in range: the first of
the eight checks that fails refuses it, with its detail; one that passes them appends the panel, movable, behind a GAP
of the separation length from the preceding panel, which merges with a GAP already last; the earlier plan records are
kept; it names slot and class once more, and the answer gives its serial and flat start; any other form is MALFORMED
(R66, R67, R70, R37, R92). No GAP stands next to a GAP in the plan, as AdjacentGapsNeverPlanned says. -/
def Obligations.PanelsPlanned : Prop :=
  (∀ (s : State) (a b : Nat),
    (compatible s a b = true ↔ ∀ z, 1 ≤ z → z ≤ s.par 10 →
      (((s.cls a).sets.getD (z - 1) 0 : Int) - (s.cls b).sets.getD (z - 1) 0).natAbs ≤
        min (s.cls a).tol (s.cls b).tol) ∧
      separation s a b =
        if compatible s a b = true then s.par 15 else max (s.par 15) (s.par 9 * s.par 8 + s.par 8)) ∧
    (∀ (before : List Seg) (s : State),
      (∀ (i : Nat) (g : Seg) (id : PanelId), before[i]? = some g → g.kind = .panel id →
        (∀ (j : Nat) (h : Seg), i < j → before[j]? = some h → isPanel h.kind = false) →
        precedingPanel before s = some (id, g.start + g.len)) ∧
      ((∀ g ∈ before, isPanel g.kind = false) →
        (∀ g id, s.fold.seg = some g → g.kind = .panel id → precedingPanel before s = some (id, g.start + g.len)) ∧
        (s.bladePanel = none →
          (∀ (i : Nat) (r : SetRec) (id : PanelId), s.plan.setMap[i]? = some r → r.kind = .panel id →
            (∀ (j : Nat) (q : SetRec), i < j → s.plan.setMap[j]? = some q → isPanel q.kind = false) →
            precedingPanel before s = some (id, r.start + r.len)) ∧
          ((∀ r ∈ s.plan.setMap, isPanel r.kind = false) → precedingPanel before s = none)))) ∧
    (∀ p : PatSlot,
      (p.useCount = 0 → slotRaised p = { p with useCount := 1, state := .locked }) ∧
        (0 < p.useCount → slotRaised p = { p with useCount := p.useCount + 1 }) ∧
        (p.useCount = 1 → slotLowered p = { p with useCount := 0, state := .ready }) ∧
        (2 ≤ p.useCount → slotLowered p = { p with useCount := p.useCount - 1 })) ∧
    ∀ (r : Request) (s : State), s.ring.bypass = false →
      (r.args.length ≠ 3 ∨ (∃ o n c : Word, r.args = [o, n, c] ∧
          (o = 0 ∨ 65535 < o.toNat ∨ 31 < n.toNat ∨ 15 < c.toNat)) →
        exec (.planPanel r) s = .next (reply 16 r .malformed s)) ∧
      ∀ (o n c : Word) (id : PanelId) (p : PatSlot) (k : FabricClass) (gap : Nat) (refusal : Option (Reason × Nat)),
        r.args = [o, n, c] → 1 ≤ o.toNat → o.toNat ≤ 65535 → n.toNat ≤ 31 → c.toNat ≤ 15 →
        id = { order := o.toNat, remake := 0, slot := n.toNat, cls := c.toNat } → p = s.slot n.toNat →
        k = s.cls c.toNat →
        refusal =
          (if s.table.state ≠ .set then some (.lineUnset, 0)
           else if p.state = .free ∨ p.state = .opened then some (.slotNotReady, 0)
           else if k.isDefined = false then some (.classUndefined, 0)
           else if s.par 17 < slotTotal (·.dMax) p then some (.patternUnfit, slotTotal (·.dMax) p)
           else
             match ((List.range (s.par 10)).find? fun z => decide (s.par 26 < k.sets.getD z 0 + k.tol)) with
             | some z => some (.classUnfit, z + 1)
             | none =>
               if slotTotal (·.o) p < 2 * s.par 8 then some (.orderTooShort, slotTotal (·.o) p)
               else if ∃ x ∈ s.livePanels, x.order = o.toNat then some (.orderIdInUse, 0)
               else if 24 < (appendPanel id s).plan.segs.length then
                 some (.planFull, (appendPanel id s).plan.segs.length)
               else none) →
        gap = (match precedingPanel s.plan.segs s with | some p => separation s p.1.cls c.toNat | none => s.par 15) →
        (∀ reason d, refusal = some (reason, d) →
          exec (.planPanel r) s = .next (reply 16 r (.refused reason d) s)) ∧
        (refusal = none → gapsMerged s →
          ∃ t g before, exec (.planPanel r) s = .next t ∧ t.plan.segs = before ++ [g] ∧ g.kind = .panel id ∧
            g.start = s.planEnd + gap ∧ g.len = slotTotal (·.f) p ∧ g.anchored = false ∧
            (if gap = 0 then before = s.plan.segs
             else
               match s.plan.segs.getLast? with
               | none => ∃ h, before = [h] ∧ h.kind = .gap ∧ h.start = s.planEnd ∧ h.len = gap ∧ h.anchored = false
               | some l =>
                 if l.kind = .gap then before = s.plan.segs.dropLast ++ [{ l with len := l.len + gap }]
                 else ∃ h, before = s.plan.segs ++ [h] ∧ h.kind = .gap ∧ h.start = s.planEnd ∧ h.len = gap ∧
                   h.anchored = false) ∧
            t.ring = (reply 16 r (.done [word g.serial.toNat, word (g.start / 4294967296), word g.start]) s).ring ∧
            t.pat = s.pat.modify n.toNat slotRaised ∧ (t.slot n.toNat).useCount = p.useCount + 1 ∧
            (t.cls c.toNat).useCount = k.useCount + 1 ∧ t.plan.setMap = s.plan.setMap ∧
            t.plan.log = s.plan.log ∧ sameInputs s t ∧ t.fold = s.fold ∧ t.gov = s.gov ∧ t.roll = s.roll ∧
            t.react = s.react ∧ t.mode = s.mode ∧ t.fault = s.fault)

/-- A CANCEL_PANEL of a planned panel that no class separation bars makes its record a GAP, which merges with the GAPs
beside it, and takes the panel's use of slot and class away, as PanelsPlanned says; nothing else changes (R68, R70,
R37, R92). It is refused CLASS_SEPARATION, with the following panel's order id, where the panels around it are
incompatible and would stand too close; STARTED for a panel at the blade or in the set map; NOT_FOUND where none is
live; any other form is MALFORMED (R68). -/
def Obligations.PanelsCancelled : Prop :=
  ∀ (r : Request) (s : State), s.ring.bypass = false →
    (r.args.length ≠ 1 ∨ (∃ o : Word, r.args = [o] ∧ (o = 0 ∨ 65535 < o.toNat)) →
      exec (.cancelPanel r) s = .next (reply 17 r .malformed s)) ∧
    ∀ o : Word, r.args = [o] → 1 ≤ o.toNat → o.toNat ≤ 65535 →
      (∀ (i : Nat) (g : Seg) (id : PanelId), s.plan.segs[i]? = some g → g.kind = .panel id → id.order = o.toNat →
        (∀ (j : Nat) (h : Seg) (k : PanelId), j < i → s.plan.segs[j]? = some h → h.kind = .panel k →
          k.order ≠ o.toNat) →
        (∀ p q j h, precedingPanel (s.plan.segs.take i) s = some p → i < j → s.plan.segs[j]? = some h →
          h.kind = .panel q → (∀ m x, i < m → m < j → s.plan.segs[m]? = some x → isPanel x.kind = false) →
          compatible s p.1.cls q.cls = false → h.start < p.2 + (s.par 9 * s.par 8 + s.par 8) →
          exec (.cancelPanel r) s = .next (reply 17 r (.refused .classSeparation q.order) s)) ∧
        ((∀ p q j h, precedingPanel (s.plan.segs.take i) s = some p → i < j → s.plan.segs[j]? = some h →
            h.kind = .panel q → (∀ m x, i < m → m < j → s.plan.segs[m]? = some x → isPanel x.kind = false) →
            compatible s p.1.cls q.cls = true ∨ p.2 + (s.par 9 * s.par 8 + s.par 8) ≤ h.start) →
          exec (.cancelPanel r) s =
            .next (reply 17 r (.done [])
              { s with
                plan := { s.plan with segs := mergeGaps (s.plan.segs.set i { g with kind := .gap }) }
                pat := s.pat.modify id.slot slotLowered
                heat := { s.heat with
                          classes :=
                            s.heat.classes.modify id.cls fun k => { k with useCount := k.useCount - 1 } } }))) ∧
      ((∀ g ∈ s.plan.segs, ∀ id, g.kind = .panel id → id.order ≠ o.toNat) →
        ((∃ id, id.order = o.toNat ∧ (s.bladePanel = some id ∨ ∃ x ∈ s.plan.setMap, x.kind = .panel id)) →
          exec (.cancelPanel r) s = .next (reply 17 r (.refused .started 0) s)) ∧
        ((∀ id, id.order = o.toNat → s.bladePanel ≠ some id ∧ ∀ x ∈ s.plan.setMap, x.kind ≠ .panel id) →
          exec (.cancelPanel r) s = .next (reply 17 r (.refused .notFound 0) s)))

/-- An ABORT_PANEL of the WALKING panel at the blade marks its set-map record REJECT_ABORTED, which is its first
reason where it had none, and gives it the output length O' = O_done + (F − F_done); the walk is ABORTED, as FOLD
shows while no further segment is handed over; it is refused NOT_AT_BLADE where that panel is not at the blade and
FOLDS_DONE where its walk is over (R56, R57, R40). -/
def Obligations.PanelsAborted : Prop :=
  ∀ (r : Request) (s : State) (o : Word), s.ring.bypass = false → r.args = [o] → 1 ≤ o.toNat → o.toNat ≤ 65535 →
    ((∀ id, s.bladePanel = some id → id.order ≠ o.toNat) →
      exec (.abortPanel r) s = .next (reply 18 r (.refused .notAtBlade 0) s)) ∧
    ∀ id, s.bladePanel = some id → id.order = o.toNat →
      (s.walking = false → exec (.abortPanel r) s = .next (reply 18 r (.refused .foldsDone 0) s)) ∧
      (∀ g w x, s.fold.seg = some g → g.walk = some w → w.status = .walking → s.findRec g.serial = some x →
        x.kind = g.kind → (∀ h ∈ s.plan.segs, h.serial ≠ g.serial) →
        ∃ t y, exec (.abortPanel r) s = .next t ∧ y ∈ t.plan.setMap ∧ y.serial = g.serial ∧
          y.rejects = x.rejects ||| 64#8 ∧ (x.rejects.getLsbD 6 = false → y.first = x.first.or (some .aborted)) ∧
          y.outLen = w.outDone + (g.len - w.flatDone) ∧
          ((∀ h, s.plan.segs.head? = some h → s.pBlade < h.start) → (s.plan.segs = [] → s.pBlade < s.planEnd) →
            t.fold = { s.fold with seg := some { g with walk := some { w with status := .aborted } } }) ∧
          t.fold.stroke = s.fold.stroke ∧ t.ring = (reply 18 r (.done []) s).ring ∧ sameInputs s t)

/-! ### Requests at the modes, stands and reactions -/

/-- SET_MODE by the rows of R155: MALFORMED for another form; BUSY in HALTING; DONE without change for the present
mode; NOT_ALLOWED off the table of R156; INHIBITED for THREAD, WARMUP and RUN while a reaction not IDLE inhibits;
CHECK_FAILED with the first entry check of R159 that fails; otherwise the transition is made, RUN from HOLD going by
WARMUP while a zone is out of band. HALT enters HALTING with every speed command 0; what this entry and the one into
HOLD do at FOLD and ROLL, HaltingAndDrainStep says (R58, R150). REACT judges the event, and the answer gives the mode
the line is then in (R155, R156, R157, R158, R159, R163, R123; notes/assumptions/27.md). -/
def Obligations.SetModeAnswers : Prop :=
  ∀ (r : Request) (s : State) (allowed : List (Mode × Mode)), s.ring.bypass = false →
    allowed =
      [(.halt, .thread), (.halt, .warmup), (.thread, .halt), (.thread, .warmup), (.warmup, .halt), (.warmup, .thread),
       (.run, .hold), (.run, .drain), (.run, .halt), (.hold, .run), (.hold, .drain), (.hold, .halt), (.drain, .run),
       (.drain, .hold), (.drain, .halt)] →
    (r.args.length ≠ 1 ∨ (∃ n : Word, r.args = [n] ∧ (n = 1 ∨ 6 < n.toNat)) →
      exec (.setMode r) s = .next (reply 2 r .malformed s)) ∧
    ∀ (n : Word) (m : Mode), r.args = [n] → m ≠ .halting →
      n.toNat = (match m with
        | .halt => 0 | .halting => 1 | .thread => 2 | .warmup => 3 | .run => 4 | .hold => 5 | .drain => 6) →
      (s.mode.mode = .halting → exec (.setMode r) s = .next (reply 2 r (.refused .busy 0) s)) ∧
      (m = s.mode.mode → exec (.setMode r) s = .next (reply 2 r (.done [n]) s)) ∧
      (s.mode.mode ≠ .halting → m ≠ s.mode.mode → (s.mode.mode, m) ∉ allowed →
        exec (.setMode r) s = .next (reply 2 r (.refused .notAllowed 0) s)) ∧
      ((s.mode.mode, m) ∈ allowed →
        (m = .thread ∨ m = .warmup ∨ m = .run → (∃ p ∈ s.react.entries, p.state ≠ .idle ∧ p.inhibit = true) →
          exec (.setMode r) s = .next (reply 2 r (.refused .inhibited 0) s)) ∧
        ((m = .thread ∨ m = .warmup ∨ m = .run → ∀ p ∈ s.react.entries, p.state ≠ .idle → p.inhibit = false) →
          (∀ (needed sampled : Nat → Prop) (fails : Nat → Prop),
            (∀ i, sampled i ↔
              i ≤ 2 ∨ (3 ≤ i ∧ i ≤ 2 + s.par 10) ∨ i = 7 ∨ (s.activeStand = some .a ∧ (i = 9 ∨ i = 12)) ∨
                (s.activeStand = some .b ∧ (i = 10 ∨ i = 13))) →
            (∀ i, needed i ↔
              sampled i ∨ (14 ≤ i ∧ i ≤ 16) ∨ (17 ≤ i ∧ i ≤ 16 + s.par 10) ∨ i = 21 ∨ i = 25 ∨
                (s.activeStand = some .a ∧ i = 22) ∨ (s.activeStand = some .b ∧ i = 23)) →
            (∀ d, fails d ↔
              match d with
              | 801 => s.table.state ≠ .set
              | 802 => ∀ x, s.activeStand = some x → s.present x = false
              | 803 => ∃ i, needed i ∧ (s.entry i).slot = none
              | 804 => ∃ g ∈ s.sig.entries, g.slot ≠ none ∧ g.kindOpen = true
              | 805 => ∃ i, sampled i ∧ (s.entry i).state ≠ .fresh
              | 806 => m = .warmup ∧ s.bladePanel = none ∧ ∀ g ∈ s.plan.segs, isPanel g.kind = false
              | _ => False) →
            m = .thread ∨ m = .warmup →
            ∀ d, fails d → (∀ c, c < d → ¬ fails c) →
              exec (.setMode r) s = .next (reply 2 r (.refused .checkFailed d) s)) ∧
          (m = .halt → moving s →
            ∃ t, exec (.setMode r) s = .next t ∧
              t = reply 2 r (.done [1]) (settle (enterHalting .request s)) ∧
              t.mode = { mode := .halting, step := 0, cause := .request } ∧ speedsZero t ∧
              t.ring = (reply 2 r (.done [1]) s).ring ∧ sameInputs s t) ∧
          (∀ m' : Mode, m ≠ .halt → (m = .thread ∨ m = .warmup → failedEntryCheck m s = none) →
            m' = (if m = .run ∧ s.mode.mode = .hold ∧ warmClass s ≠ none ∧ zonesInBand s = false then .warmup
              else m) →
            ∃ b u, b = { s with
                mode := { s.mode with mode := m' }
                heat := if s.mode.mode = .halt then { s.heat with phase := .none, standbyTimer := 0 } else s.heat
                react := { s.react with marks := b.react.marks } } ∧
              (∀ c, b.cond c = (s.cond c && !(decide (c = .planEmpty) && decide (s.mode.mode = .run)))) ∧
              u = (match m' with
                | .run => handOver b
                | .hold => enterHold s
                | .warmup => { b with heat := { b.heat with steam := true, stable := 0, warm := 0 } }
                | _ => b) ∧
              u.mode = b.mode ∧ u.gov = s.gov ∧ sameInputs s u ∧ u.react.entries = s.react.entries ∧
              u.ring = s.ring ∧
              exec (.setMode r) s =
                .next (reply 2 r (.done [word (modeCode (settle u).mode.mode)]) (settle u)) ∧
              (reactQuiet s → (settle u).mode = u.mode ∧ (settle u).gov = u.gov))))

/-- LINE_RESET in HALT clears the run state of every block: positions, excesses, baselines and episodes; slots and use
counts; the segment at the blade, the stroke in flight and the latch; plan, set map, log and discard flag; cells,
accumulator and warm-up counts; the sequencer, with the stands taking their derived roles; the reactions, which are
then judged again; the trip latches and the conditions that follow any of these. It keeps the line table, the signal
map and its supervision, the time base, the serials, the readings, the fields of the reactions, the fault record and
GOV; it is refused WRONG_MODE in every other mode and MALFORMED with an argument word (R167, R168, R17, R39, R61, R87,
R111, R152, R190). The baseline counts it leaves are 0 (notes/assumptions/13.md). -/
def Obligations.LineResetClears : Prop :=
  ∀ (r : Request) (s : State), s.ring.bypass = false →
    (r.args ≠ [] → exec (.lineReset r) s = .next (reply 3 r .malformed s)) ∧
    (r.args = [] → s.mode.mode ≠ .halt → exec (.lineReset r) s = .next (reply 3 r (.refused .wrongMode 0) s)) ∧
    (r.args = [] → s.mode.mode = .halt →
      ∃ t, exec (.lineReset r) s = .next t ∧ t.ring = (reply 3 r (.done []) s).ring ∧ t.table = s.table ∧
        t.sig.entries = s.sig.entries ∧ t.mode = s.mode ∧ t.gov = s.gov ∧
        t.pos = { s.pos with flat := Encoder.reset, conv := Encoder.reset } ∧ t.pat.length = s.pat.length ∧
        (∀ (i : Nat) (p : PatSlot), s.pat[i]? = some p → t.pat[i]? =
          some
            (match p.state with
             | .opened =>
               { state := .free, entries := List.replicate 64 (0, 0), written := 0, entryCount := none,
                 closeSum := none, totals := none, useCount := 0 }
             | .locked => { p with state := .ready, useCount := 0 }
             | .ready => { p with useCount := 0 }
             | .free => { p with useCount := 0 })) ∧
        t.fold = { s.fold with seg := none, stroke := none, failLatch := false } ∧
        t.plan = { s.plan with segs := [], originMark := 0, setMap := [], log := [], discard := false } ∧
        t.heat =
          { s.heat with
            classes := s.heat.classes.map fun k => { k with useCount := 0 }
            cells := s.heat.cells.map fun _ => { owner := none, age := 0, exposure := 0 }
            acc := 0, stable := 0, warm := 0 } ∧
        t.roll =
          { s.roll with
            standA := t.roll.standA, standB := t.roll.standB, state := .idle, incoming := none, forced := false,
            winStatus := .none, winSerial := none, pastePos := none, matchCount := 0, matched := false, matchTimer := 0,
            confirmAge := 0, settleCount := 0, missCount := 0, hold := false, failed := false, noStandby := false,
            pasteFlight := false, cutFlight := false, arm := false } ∧
        (∀ x, t.stand x =
          { s.stand x with
            role :=
              (match (s.stand x).diam with
               | none => none
               | some d =>
                 if (s.entry (match x with | .a => 12 | .b => 13)).state = .lost then some .notReady
                 else if d = 0 then some .absent else if s.par 33 < d then some .ready else some .notReady)
            step := 0, steps := 0, brake := true }) ∧
        (∀ (i : Nat) (p : ReactEntry), s.react.entries[i]? = some p →
          ∃ q, t.react.entries[i]? = some q ∧
            q = { p with state := q.state, remaining := q.remaining } ∧
            (p.enabled = false ∨ p.trigger &&& t.react.marks = 0 → q.state = .idle ∧ q.remaining = 0) ∧
            (p.enabled = true → p.trigger &&& t.react.marks ≠ 0 → q.state ≠ .idle)) ∧
        t.sig.estop = { s.sig.estop with latch := false } ∧ t.sig.guard = { s.sig.guard with latch := false } ∧
        ((s.par 49 = 0 → s.sig.estop.asserted = true → s.cond .estop = true) →
          (s.par 50 = 0 → s.sig.guard.asserted = true → s.cond .guard = true) → t.fault = s.fault) ∧
        t.cond .estop = (if s.par 49 = 0 then s.sig.estop.asserted else false) ∧
        t.cond .guard = (if s.par 50 = 0 then s.sig.guard.asserted else false) ∧
        t.cond .bladeFault = decide (s.fold.status = some .fault) ∧ t.cond .webEnd = false ∧
        t.cond .spliceFailed = false ∧ t.cond .overdwell = false ∧ t.cond .webReverse = false ∧
        t.cond .bladeOverrun = false ∧ t.cond .planEmpty = false ∧ t.cond .pressureLow = false ∧
        t.cond .zoneOver = s.cond .zoneOver ∧ t.cond .signalLost = s.cond .signalLost)

/-- SET_ACTIVE_STAND in HALT with the sequencer IDLE and no stand STOPPING: a present stand named becomes ACTIVE and
the other stand is not; with 2 an ACTIVE stand takes its derived role; hold and miss count are cleared, and WEB_END is
inactive without an ACTIVE stand (R131, R129, R132). START_ROLL_CHANGE with the other stand READY arms the change;
CANCEL_ROLL_CHANGE drops it and sets the hold: in ARMED; and in PREPARE, where it is not forced, with the incoming
stand stopping in three steps and the window released, all else kept; forced, it is refused FORCED (R136, R137, R148,
R75).
That the window serial is then none is notes/assumptions/11.md. -/
def Obligations.RollRequestsTaken : Prop :=
  (∀ (r : Request) (s : State) (n : Word) (x : Stand), s.ring.bypass = false → r.args = [n] →
      n = (match x with | .a => 0 | .b => 1) → s.mode.mode = .halt → s.roll.state = .idle →
      s.roll.standA.role ≠ some .stopping → s.roll.standB.role ≠ some .stopping → s.present x = true →
      ∃ t, exec (.setActiveStand r) s = .next t ∧ (t.stand x).role = some .active ∧ (t.stand x).brake = false ∧
        (t.stand (otherStand x)).role ≠ some .active ∧ t.activeStand = some x ∧ t.roll.hold = false ∧
        t.roll.missCount = 0 ∧ t.roll.state = .idle ∧ t.ring = (reply 19 r (.done []) s).ring ∧ sameInputs s t ∧
        t.mode = s.mode ∧ t.gov = s.gov) ∧
    (∀ (r : Request) (s : State), s.ring.bypass = false → r.args = [2] → s.mode.mode = .halt → s.roll.state = .idle →
      s.roll.standA.role ≠ some .stopping → s.roll.standB.role ≠ some .stopping →
      ∃ t, exec (.setActiveStand r) s = .next t ∧ t.activeStand = none ∧ t.cond .webEnd = false ∧
        (∀ x, t.stand x =
          if (s.stand x).role = some .active then
            { s.stand x with
              role :=
                (match (s.stand x).diam with
                 | none => none
                 | some d =>
                   if (s.entry (match x with | .a => 12 | .b => 13)).state = .lost then some .notReady
                   else if d = 0 then some .absent else if s.par 33 < d then some .ready else some .notReady)
              step := 0, steps := 0, brake := true }
          else s.stand x) ∧
        t.roll.hold = false ∧ t.roll.missCount = 0 ∧ t.roll.state = .idle ∧
        t.ring = (reply 19 r (.done []) s).ring ∧ sameInputs s t ∧ t.mode = s.mode ∧ t.gov = s.gov) ∧
    (∀ (r : Request) (s : State) (x : Stand), s.ring.bypass = false → r.args = [] → reactQuiet s →
      s.mode.mode = .run ∨ s.mode.mode = .hold ∨ s.mode.mode = .drain → s.roll.state = .idle →
      s.activeStand = some (otherStand x) → (s.stand x).role = some .ready →
      ∃ t, exec (.startRollChange r) s = .next t ∧ t.roll.state = .armed ∧ t.roll.incoming = some x ∧
        t.roll.forced = false ∧ t.roll.hold = false ∧ t.roll.missCount = 0 ∧
        (t.roll.winStatus = .reserved ∨ t.roll.winStatus = .pending) ∧
        t.ring = (reply 20 r (.done []) s).ring ∧ sameInputs s t ∧ t.mode = s.mode ∧ t.gov = s.gov) ∧
    (∀ (r : Request) (s : State), s.ring.bypass = false → r.args = [] → s.roll.state = .armed →
      ∃ t, exec (.cancelRollChange r) s = .next t ∧ t.roll.state = .idle ∧ t.roll.hold = true ∧
        t.roll.winStatus = .none ∧ t.roll.pastePos = none ∧ t.roll.missCount = s.roll.missCount ∧
        t.ring = (reply 21 r (.done []) s).ring ∧ sameInputs s t ∧ t.mode = s.mode ∧ t.gov = s.gov ∧
        t.react = s.react ∧ t.fault = s.fault) ∧
    ∀ (r : Request) (s : State) (x : Stand), s.ring.bypass = false → r.args = [] → s.roll.state = .prepare →
      s.roll.incoming = some x →
      (s.roll.forced = true → exec (.cancelRollChange r) s = .next (reply 21 r (.refused .forced 0) s)) ∧
      (s.roll.forced = false →
        ∃ t, exec (.cancelRollChange r) s = .next t ∧
          t.roll =
            { s.roll with
              standA := t.roll.standA, standB := t.roll.standB, state := .idle, hold := true, winStatus := .none,
              winSerial := none, pastePos := none } ∧
          (t.stand x).role = some .stopping ∧ (t.stand x).step = 1 ∧ (t.stand x).steps = 3 ∧
          t.stand (otherStand x) = s.stand (otherStand x) ∧
          t.plan =
            (if s.roll.winStatus = .reserved ∨ s.roll.winStatus = .committed then
               { s.plan with
                 segs :=
                   mergeGaps
                     (s.plan.segs.map fun g =>
                       if g.kind = .window then { g with kind := .gap, anchored := false } else g) }
             else s.plan) ∧
          t.ring = (reply 21 r (.done []) s).ring ∧ sameInputs s t ∧ t.mode = s.mode ∧ t.gov = s.gov ∧
          t.react = s.react ∧ t.fault = s.fault)

/-- WRITE_REACTION: MALFORMED for another form, NOT_IDLE for an entry in force, OUT_OF_RANGE with the index of the
first bad word; accepted, it writes the nine fields of an IDLE entry and of no other (R183, R182; an enabled entry
with an empty TRIGGER names the TRIGGER word: notes/assumptions/34.md). With every other entry disabled and IDLE, an
acknowledged APPLIED entry without an active condition returns to IDLE, and SPLICE_FAILED leaves with it (R189,
R151). -/
def Obligations.ReactionsWrittenAndAcknowledged : Prop :=
  (∀ (r : Request) (s : State), s.ring.bypass = false →
    (r.args.length ≠ 10 ∨ (∃ i : Word, r.args.head? = some i ∧ 7 < i.toNat) →
      exec (.writeReaction r) s = .next (reply 22 r .malformed s)) ∧
    ∀ i en trig prio act cap steam purge inh auto : Word,
      r.args = [i, en, trig, prio, act, cap, steam, purge, inh, auto] → i.toNat ≤ 7 →
      ((s.reaction i.toNat).state ≠ .idle →
        exec (.writeReaction r) s = .next (reply 22 r (.refused .notIdle 0) s)) ∧
      ((s.reaction i.toNat).state = .idle → ∀ bad : Nat → Prop,
        (∀ k, bad k ↔
          match k with
          | 1 => 1 < en.toNat
          | 2 => 65535 < trig.toNat ∨ (en = 1 ∧ trig = 0)
          | 3 => prio.toNat < 1 ∨ 3 < prio.toNat
          | 4 => 2 < act.toNat
          | 5 => cap ≠ 0xFFFFFFFF ∧ 100000 < cap.toNat
          | 6 => 3 < steam.toNat
          | 7 => 65535 < purge.toNat
          | 8 => 1 < inh.toNat
          | 9 => 1 < auto.toNat
          | _ => False) →
        (∀ k, bad k → (∀ j, j < k → ¬ bad j) →
          exec (.writeReaction r) s = .next (reply 22 r (.refused .outOfRange k) s)) ∧
        ((∀ k, ¬ bad k) → s.react.entries.length = 8 →
          ∃ t, exec (.writeReaction r) s = .next t ∧ (t.reaction i.toNat).enabled = decide (en = 1) ∧
            (t.reaction i.toNat).trigger = trig.setWidth 16 ∧ (t.reaction i.toNat).priority = prio.toNat ∧
            actionCode (t.reaction i.toNat).modeAction = act.toNat ∧
            (t.reaction i.toNat).speedCap = (if cap = 0xFFFFFFFF then none else some cap.toNat) ∧
            steamCode (t.reaction i.toNat).steamAction = steam.toNat ∧
            (t.reaction i.toNat).purgeCycles = purge.toNat ∧ (t.reaction i.toNat).inhibit = decide (inh = 1) ∧
            (t.reaction i.toNat).autoClear = decide (auto = 1) ∧
            (∀ j, j ≠ i.toNat →
              t.reaction j =
                { s.reaction j with state := (t.reaction j).state, remaining := (t.reaction j).remaining }) ∧
            t.ring = (reply 22 r (.done []) s).ring ∧ sameInputs s t))) ∧
    ∀ (r : Request) (s : State) (i : Word) (p : ReactEntry), s.ring.bypass = false → r.args = [i] → i.toNat ≤ 7 →
      s.react.entries[i.toNat]? = some p →
      (p.state ≠ .applied → exec (.ackReaction r) s = .next (reply 24 r (.refused .notApplied 0) s)) ∧
      (p.state = .applied →
        (∀ n, n < 16 → n ≠ 13 → p.trigger.getLsbD n = true → s.react.marks.getLsbD n = true →
          (∀ m, m < n → m ≠ 13 → p.trigger.getLsbD m = true → s.react.marks.getLsbD m = false) →
          exec (.ackReaction r) s = .next (reply 24 r (.refused .stillActive n) s)) ∧
        ((∀ j q, s.react.entries[j]? = some q → j ≠ i.toNat → q.enabled = false ∧ q.state = .idle) →
          p.trigger &&& s.react.marks &&& ~~~(1#16 <<< 13) = 0 →
          ∃ t, exec (.ackReaction r) s = .next t ∧ (t.reaction i.toNat).state = .idle ∧
            t.cond .spliceFailed = (if p.trigger.getLsbD 13 = true then false else s.cond .spliceFailed) ∧
            t.ring = (reply 24 r (.done []) s).ring ∧ sameInputs s t ∧ t.mode = s.mode ∧ t.gov = s.gov ∧
            t.roll = s.roll ∧ t.plan = s.plan ∧ t.fold = s.fold))

/-! ### Trip inputs -/

/-- A change of a trip input's level: in LEVEL mode its condition follows the level; in EDGE mode an assertion edge
sets the latch and the condition follows the latch (R179). ACK_TRIP answers the levels and latches as they were and
clears the latches it names (R180). -/
def Obligations.TripsFollowInputs : Prop :=
  (∀ (s : State) (x : TripInput) (level : Bool),
      ∃ t, exec (.tripInputChange x level) s = .next t ∧ (t.trip x).asserted = level ∧
        (t.trip x).latch =
          (if s.par (match x with | .estop => 49 | .guard => 50) = 0 then (s.trip x).latch
           else (s.trip x).latch || (level && !(s.trip x).asserted)) ∧
        t.cond (match x with | .estop => .estop | .guard => .guard) =
          (if s.par (match x with | .estop => 49 | .guard => 50) = 0 then level else (t.trip x).latch) ∧
        t.sig.entries = s.sig.entries ∧ t.ring = s.ring ∧ t.pos = s.pos ∧ t.table = s.table) ∧
    ∀ (r : Request) (s : State) (n : Word), s.ring.bypass = false → r.args = [n] → n.toNat ≤ 2 →
      ∃ t, exec (.ackTrip r) s = .next t ∧
        t.ring =
          (reply 25 r
            (.done [word (bit s.sig.estop.asserted + 2 * bit s.sig.estop.latch + 4 * bit s.sig.guard.asserted
              + 8 * bit s.sig.guard.latch)]) s).ring ∧
        t.sig =
          { s.sig with
            estop := { s.sig.estop with latch := if n = 1 then s.sig.estop.latch else false }
            guard := { s.sig.guard with latch := if n = 0 then s.sig.guard.latch else false } } ∧
        t.pos = s.pos ∧ t.table = s.table ∧
        (n ≠ 1 → t.cond .estop = if s.par 49 = 0 then s.sig.estop.asserted else false) ∧
        (n ≠ 0 → t.cond .guard = if s.par 50 = 0 then s.sig.guard.asserted else false)

/-! ### Collecting requests -/

/-- READ_COMPLETIONS returns and removes the oldest entries and clears the discard flag; nothing else changes (R86).
READ_FAULTS gives the counts, the flags and the entries asked for, newest first, in every state, and no state changed
(R214; word layouts R206); the kind and value of a subject are none 0, order id 1, signal 2 and stand 3, with A 0 and B
1 (R206), and the value of none is the model's choice (notes/assumptions/47.md). CLEAR_FAULTS answers the flags as they
stood, clears them and makes FAULT_LATCHED inactive; the history is kept (R215); it holds with every reaction disabled
and IDLE, so that no reaction records a fault in the same event. -/
def Obligations.RecordsCollected : Prop :=
  (∀ n, [Subject.none, .order n, .signal n, .stand .a, .stand .b].map subjectCode =
    [(0, 0), (1, n), (2, n), (3, 0), (3, 1)]) ∧
  ∀ (r : Request) (s : State), s.ring.bypass = false →
    (r.args.length ≠ 2 →
      exec (.readCompletions r) s = .next (reply 27 r .malformed s) ∧
        exec (.readFaults r) s = .next (reply 28 r .malformed s)) ∧
    (∀ count form : Word, r.args = [count, form] →
      (count = 0 ∨ 7 < count.toNat ∨ 1 < form.toNat →
        exec (.readCompletions r) s = .next (reply 27 r .malformed s)) ∧
      (1 ≤ count.toNat → count.toNat ≤ 7 → form.toNat ≤ 1 →
        ∃ n, n = min (min count.toNat s.plan.log.length) (if form = 1 then 3 else 7) ∧
          exec (.readCompletions r) s =
            .next (reply 27 r
              (.done (word (n + 256 * (s.plan.log.length - n) + 65536 * bit s.plan.discard) ::
                (s.plan.log.take n).flatMap fun c =>
                  [word (c.id.order * 65536 + c.id.cls * 4096 + c.id.slot * 128 + c.id.remake * 32
                      + outcomeCode c.first * 4 + dispositionCode c.disposition),
                   word (c.folds * 1048576 + min c.maxLate 1048575)] ++
                    if form = 1 then [word c.minDwell, word c.maxDwell, word c.exposure] else []))
              { s with plan := { s.plan with log := s.plan.log.drop n, discard := false } }))) ∧
    (∀ first count : Word, r.args = [first, count] →
      (15 < first.toNat ∨ count = 0 ∨ 3 < count.toNat →
        exec (.readFaults r) s = .next (reply 28 r .malformed s)) ∧
      (first.toNat ≤ 15 → 1 ≤ count.toNat → count.toNat ≤ 3 →
        ∃ es, es = (s.fault.history.drop first.toNat).take count.toNat ∧
          exec (.readFaults r) s =
            .next (reply 28 r
              (.done (word (s.fault.history.length + 256 * es.length + 65536 * s.fault.flags.toNat) ::
                es.flatMap fun h =>
                  [word (h.detail + 65536 * h.repeats + 16777216 * (subjectCode h.subject).1),
                   word (65536 * h.cycle.toNat + (subjectCode h.subject).2), word (h.pBlade / 4294967296),
                   word h.pBlade])) s))) ∧
    (r.args ≠ [] → exec (.clearFaults r) s = .next (reply 29 r .malformed s)) ∧
    (r.args = [] → reactQuiet s →
      ∃ t, exec (.clearFaults r) s = .next t ∧ t.fault = { s.fault with flags := 0 } ∧
        t.cond .faultLatched = false ∧ t.ring = (reply 29 r (.done [word (65536 * s.fault.flags.toNat)]) s).ring ∧
        sameInputs s t ∧ t.mode = s.mode ∧ t.plan = s.plan ∧ t.fold = s.fold ∧ t.gov = s.gov ∧ t.roll = s.roll)
end

