-- ==== Sys2Proof/Laws/State.lean ====
section
/-! SUPPORT. What each update of the state leaves in each of its fields: one lemma for each field and update. -/
set_option Elab.async false
namespace Sys2Proof.Machine

@[simp] theorem setCond_ring (c : Cond) (b : Bool) (s : State) :
    (setCond c b s).ring = s.ring := rfl
@[simp] theorem setCond_sig (c : Cond) (b : Bool) (s : State) :
    (setCond c b s).sig = s.sig := rfl
@[simp] theorem setCond_pos (c : Cond) (b : Bool) (s : State) :
    (setCond c b s).pos = s.pos := rfl
@[simp] theorem setCond_table (c : Cond) (b : Bool) (s : State) :
    (setCond c b s).table = s.table := rfl
@[simp] theorem setCond_pat (c : Cond) (b : Bool) (s : State) :
    (setCond c b s).pat = s.pat := rfl
@[simp] theorem setCond_fold (c : Cond) (b : Bool) (s : State) :
    (setCond c b s).fold = s.fold := rfl
@[simp] theorem setCond_plan (c : Cond) (b : Bool) (s : State) :
    (setCond c b s).plan = s.plan := rfl
@[simp] theorem setCond_heat (c : Cond) (b : Bool) (s : State) :
    (setCond c b s).heat = s.heat := rfl
@[simp] theorem setCond_gov (c : Cond) (b : Bool) (s : State) :
    (setCond c b s).gov = s.gov := rfl
@[simp] theorem setCond_roll (c : Cond) (b : Bool) (s : State) :
    (setCond c b s).roll = s.roll := rfl
@[simp] theorem setCond_react (c : Cond) (b : Bool) (s : State) :
    (setCond c b s).react = { s.react with marks := withMark c b s.react.marks } := rfl
@[simp] theorem setCond_mode (c : Cond) (b : Bool) (s : State) :
    (setCond c b s).mode = s.mode := rfl
@[simp] theorem setCond_fault (c : Cond) (b : Bool) (s : State) :
    (setCond c b s).fault = s.fault := rfl
@[simp] theorem setCond_pending (c : Cond) (b : Bool) (s : State) :
    (setCond c b s).pending = s.pending := rfl

@[simp] theorem recordFault_ring (detail : Nat) (subject : Subject) (s : State) :
    (recordFault detail subject s).ring = s.ring := rfl
@[simp] theorem recordFault_sig (detail : Nat) (subject : Subject) (s : State) :
    (recordFault detail subject s).sig = s.sig := rfl
@[simp] theorem recordFault_pos (detail : Nat) (subject : Subject) (s : State) :
    (recordFault detail subject s).pos = s.pos := rfl
@[simp] theorem recordFault_table (detail : Nat) (subject : Subject) (s : State) :
    (recordFault detail subject s).table = s.table := rfl
@[simp] theorem recordFault_pat (detail : Nat) (subject : Subject) (s : State) :
    (recordFault detail subject s).pat = s.pat := rfl
@[simp] theorem recordFault_fold (detail : Nat) (subject : Subject) (s : State) :
    (recordFault detail subject s).fold = s.fold := rfl
@[simp] theorem recordFault_plan (detail : Nat) (subject : Subject) (s : State) :
    (recordFault detail subject s).plan = s.plan := rfl
@[simp] theorem recordFault_heat (detail : Nat) (subject : Subject) (s : State) :
    (recordFault detail subject s).heat = s.heat := rfl
@[simp] theorem recordFault_gov (detail : Nat) (subject : Subject) (s : State) :
    (recordFault detail subject s).gov = s.gov := rfl
@[simp] theorem recordFault_roll (detail : Nat) (subject : Subject) (s : State) :
    (recordFault detail subject s).roll = s.roll := rfl
@[simp] theorem recordFault_mode (detail : Nat) (subject : Subject) (s : State) :
    (recordFault detail subject s).mode = s.mode := rfl
@[simp] theorem recordFault_pending (detail : Nat) (subject : Subject) (s : State) :
    (recordFault detail subject s).pending = s.pending := rfl

@[simp] theorem modEntry_ring (i : Nat) (f : SigEntry → SigEntry) (s : State) :
    (modEntry i f s).ring = s.ring := rfl
@[simp] theorem modEntry_sig (i : Nat) (f : SigEntry → SigEntry) (s : State) :
    (modEntry i f s).sig = { s.sig with entries := s.sig.entries.modify i f } := rfl
@[simp] theorem modEntry_pos (i : Nat) (f : SigEntry → SigEntry) (s : State) :
    (modEntry i f s).pos = s.pos := rfl
@[simp] theorem modEntry_table (i : Nat) (f : SigEntry → SigEntry) (s : State) :
    (modEntry i f s).table = s.table := rfl
@[simp] theorem modEntry_pat (i : Nat) (f : SigEntry → SigEntry) (s : State) :
    (modEntry i f s).pat = s.pat := rfl
@[simp] theorem modEntry_fold (i : Nat) (f : SigEntry → SigEntry) (s : State) :
    (modEntry i f s).fold = s.fold := rfl
@[simp] theorem modEntry_plan (i : Nat) (f : SigEntry → SigEntry) (s : State) :
    (modEntry i f s).plan = s.plan := rfl
@[simp] theorem modEntry_heat (i : Nat) (f : SigEntry → SigEntry) (s : State) :
    (modEntry i f s).heat = s.heat := rfl
@[simp] theorem modEntry_gov (i : Nat) (f : SigEntry → SigEntry) (s : State) :
    (modEntry i f s).gov = s.gov := rfl
@[simp] theorem modEntry_roll (i : Nat) (f : SigEntry → SigEntry) (s : State) :
    (modEntry i f s).roll = s.roll := rfl
@[simp] theorem modEntry_react (i : Nat) (f : SigEntry → SigEntry) (s : State) :
    (modEntry i f s).react = s.react := rfl
@[simp] theorem modEntry_mode (i : Nat) (f : SigEntry → SigEntry) (s : State) :
    (modEntry i f s).mode = s.mode := rfl
@[simp] theorem modEntry_fault (i : Nat) (f : SigEntry → SigEntry) (s : State) :
    (modEntry i f s).fault = s.fault := rfl
@[simp] theorem modEntry_pending (i : Nat) (f : SigEntry → SigEntry) (s : State) :
    (modEntry i f s).pending = s.pending := rfl

@[simp] theorem raiseUse_ring (id : PanelId) (s : State) :
    (raiseUse id s).ring = s.ring := rfl
@[simp] theorem raiseUse_sig (id : PanelId) (s : State) :
    (raiseUse id s).sig = s.sig := rfl
@[simp] theorem raiseUse_pos (id : PanelId) (s : State) :
    (raiseUse id s).pos = s.pos := rfl
@[simp] theorem raiseUse_table (id : PanelId) (s : State) :
    (raiseUse id s).table = s.table := rfl
@[simp] theorem raiseUse_pat (id : PanelId) (s : State) :
    (raiseUse id s).pat = s.pat.modify id.slot slotRaised := rfl
@[simp] theorem raiseUse_fold (id : PanelId) (s : State) :
    (raiseUse id s).fold = s.fold := rfl
@[simp] theorem raiseUse_plan (id : PanelId) (s : State) :
    (raiseUse id s).plan = s.plan := rfl
@[simp] theorem raiseUse_gov (id : PanelId) (s : State) :
    (raiseUse id s).gov = s.gov := rfl
@[simp] theorem raiseUse_roll (id : PanelId) (s : State) :
    (raiseUse id s).roll = s.roll := rfl
@[simp] theorem raiseUse_react (id : PanelId) (s : State) :
    (raiseUse id s).react = s.react := rfl
@[simp] theorem raiseUse_mode (id : PanelId) (s : State) :
    (raiseUse id s).mode = s.mode := rfl
@[simp] theorem raiseUse_fault (id : PanelId) (s : State) :
    (raiseUse id s).fault = s.fault := rfl
@[simp] theorem raiseUse_pending (id : PanelId) (s : State) :
    (raiseUse id s).pending = s.pending := rfl

@[simp] theorem lowerUse_ring (id : PanelId) (s : State) :
    (lowerUse id s).ring = s.ring := rfl
@[simp] theorem lowerUse_sig (id : PanelId) (s : State) :
    (lowerUse id s).sig = s.sig := rfl
@[simp] theorem lowerUse_pos (id : PanelId) (s : State) :
    (lowerUse id s).pos = s.pos := rfl
@[simp] theorem lowerUse_table (id : PanelId) (s : State) :
    (lowerUse id s).table = s.table := rfl
@[simp] theorem lowerUse_pat (id : PanelId) (s : State) :
    (lowerUse id s).pat = s.pat.modify id.slot slotLowered := rfl
@[simp] theorem lowerUse_fold (id : PanelId) (s : State) :
    (lowerUse id s).fold = s.fold := rfl
@[simp] theorem lowerUse_plan (id : PanelId) (s : State) :
    (lowerUse id s).plan = s.plan := rfl
@[simp] theorem lowerUse_gov (id : PanelId) (s : State) :
    (lowerUse id s).gov = s.gov := rfl
@[simp] theorem lowerUse_roll (id : PanelId) (s : State) :
    (lowerUse id s).roll = s.roll := rfl
@[simp] theorem lowerUse_react (id : PanelId) (s : State) :
    (lowerUse id s).react = s.react := rfl
@[simp] theorem lowerUse_mode (id : PanelId) (s : State) :
    (lowerUse id s).mode = s.mode := rfl
@[simp] theorem lowerUse_fault (id : PanelId) (s : State) :
    (lowerUse id s).fault = s.fault := rfl
@[simp] theorem lowerUse_pending (id : PanelId) (s : State) :
    (lowerUse id s).pending = s.pending := rfl

@[simp] theorem modRec_ring (serial : SegSerial) (f : SetRec → SetRec) (s : State) :
    (modRec serial f s).ring = s.ring := rfl
@[simp] theorem modRec_sig (serial : SegSerial) (f : SetRec → SetRec) (s : State) :
    (modRec serial f s).sig = s.sig := rfl
@[simp] theorem modRec_pos (serial : SegSerial) (f : SetRec → SetRec) (s : State) :
    (modRec serial f s).pos = s.pos := rfl
@[simp] theorem modRec_table (serial : SegSerial) (f : SetRec → SetRec) (s : State) :
    (modRec serial f s).table = s.table := rfl
@[simp] theorem modRec_pat (serial : SegSerial) (f : SetRec → SetRec) (s : State) :
    (modRec serial f s).pat = s.pat := rfl
@[simp] theorem modRec_fold (serial : SegSerial) (f : SetRec → SetRec) (s : State) :
    (modRec serial f s).fold = s.fold := rfl
@[simp] theorem modRec_plan (serial : SegSerial) (f : SetRec → SetRec) (s : State) :
    (modRec serial f s).plan = { s.plan with setMap := s.plan.setMap.map fun r => if r.serial = serial then f r else r } := rfl
@[simp] theorem modRec_heat (serial : SegSerial) (f : SetRec → SetRec) (s : State) :
    (modRec serial f s).heat = s.heat := rfl
@[simp] theorem modRec_gov (serial : SegSerial) (f : SetRec → SetRec) (s : State) :
    (modRec serial f s).gov = s.gov := rfl
@[simp] theorem modRec_roll (serial : SegSerial) (f : SetRec → SetRec) (s : State) :
    (modRec serial f s).roll = s.roll := rfl
@[simp] theorem modRec_react (serial : SegSerial) (f : SetRec → SetRec) (s : State) :
    (modRec serial f s).react = s.react := rfl
@[simp] theorem modRec_mode (serial : SegSerial) (f : SetRec → SetRec) (s : State) :
    (modRec serial f s).mode = s.mode := rfl
@[simp] theorem modRec_fault (serial : SegSerial) (f : SetRec → SetRec) (s : State) :
    (modRec serial f s).fault = s.fault := rfl
@[simp] theorem modRec_pending (serial : SegSerial) (f : SetRec → SetRec) (s : State) :
    (modRec serial f s).pending = s.pending := rfl

@[simp] theorem modStand_ring (x : Stand) (f : StandRec → StandRec) (s : State) :
    (modStand x f s).ring = s.ring := by cases x <;> rfl
@[simp] theorem modStand_sig (x : Stand) (f : StandRec → StandRec) (s : State) :
    (modStand x f s).sig = s.sig := by cases x <;> rfl
@[simp] theorem modStand_pos (x : Stand) (f : StandRec → StandRec) (s : State) :
    (modStand x f s).pos = s.pos := by cases x <;> rfl
@[simp] theorem modStand_table (x : Stand) (f : StandRec → StandRec) (s : State) :
    (modStand x f s).table = s.table := by cases x <;> rfl
@[simp] theorem modStand_pat (x : Stand) (f : StandRec → StandRec) (s : State) :
    (modStand x f s).pat = s.pat := by cases x <;> rfl
@[simp] theorem modStand_fold (x : Stand) (f : StandRec → StandRec) (s : State) :
    (modStand x f s).fold = s.fold := by cases x <;> rfl
@[simp] theorem modStand_plan (x : Stand) (f : StandRec → StandRec) (s : State) :
    (modStand x f s).plan = s.plan := by cases x <;> rfl
@[simp] theorem modStand_heat (x : Stand) (f : StandRec → StandRec) (s : State) :
    (modStand x f s).heat = s.heat := by cases x <;> rfl
@[simp] theorem modStand_gov (x : Stand) (f : StandRec → StandRec) (s : State) :
    (modStand x f s).gov = s.gov := by cases x <;> rfl
@[simp] theorem modStand_react (x : Stand) (f : StandRec → StandRec) (s : State) :
    (modStand x f s).react = s.react := by cases x <;> rfl
@[simp] theorem modStand_mode (x : Stand) (f : StandRec → StandRec) (s : State) :
    (modStand x f s).mode = s.mode := by cases x <;> rfl
@[simp] theorem modStand_fault (x : Stand) (f : StandRec → StandRec) (s : State) :
    (modStand x f s).fault = s.fault := by cases x <;> rfl
@[simp] theorem modStand_pending (x : Stand) (f : StandRec → StandRec) (s : State) :
    (modStand x f s).pending = s.pending := by cases x <;> rfl

@[simp] theorem modReaction_ring (i : Nat) (f : ReactEntry → ReactEntry) (s : State) :
    (modReaction i f s).ring = s.ring := rfl
@[simp] theorem modReaction_sig (i : Nat) (f : ReactEntry → ReactEntry) (s : State) :
    (modReaction i f s).sig = s.sig := rfl
@[simp] theorem modReaction_pos (i : Nat) (f : ReactEntry → ReactEntry) (s : State) :
    (modReaction i f s).pos = s.pos := rfl
@[simp] theorem modReaction_table (i : Nat) (f : ReactEntry → ReactEntry) (s : State) :
    (modReaction i f s).table = s.table := rfl
@[simp] theorem modReaction_pat (i : Nat) (f : ReactEntry → ReactEntry) (s : State) :
    (modReaction i f s).pat = s.pat := rfl
@[simp] theorem modReaction_fold (i : Nat) (f : ReactEntry → ReactEntry) (s : State) :
    (modReaction i f s).fold = s.fold := rfl
@[simp] theorem modReaction_plan (i : Nat) (f : ReactEntry → ReactEntry) (s : State) :
    (modReaction i f s).plan = s.plan := rfl
@[simp] theorem modReaction_heat (i : Nat) (f : ReactEntry → ReactEntry) (s : State) :
    (modReaction i f s).heat = s.heat := rfl
@[simp] theorem modReaction_gov (i : Nat) (f : ReactEntry → ReactEntry) (s : State) :
    (modReaction i f s).gov = s.gov := rfl
@[simp] theorem modReaction_roll (i : Nat) (f : ReactEntry → ReactEntry) (s : State) :
    (modReaction i f s).roll = s.roll := rfl
@[simp] theorem modReaction_react (i : Nat) (f : ReactEntry → ReactEntry) (s : State) :
    (modReaction i f s).react = { s.react with entries := s.react.entries.modify i f } := rfl
@[simp] theorem modReaction_mode (i : Nat) (f : ReactEntry → ReactEntry) (s : State) :
    (modReaction i f s).mode = s.mode := rfl
@[simp] theorem modReaction_fault (i : Nat) (f : ReactEntry → ReactEntry) (s : State) :
    (modReaction i f s).fault = s.fault := rfl
@[simp] theorem modReaction_pending (i : Nat) (f : ReactEntry → ReactEntry) (s : State) :
    (modReaction i f s).pending = s.pending := rfl

@[simp] theorem useCycle_ring (cycle : BitVec 16) (e : Nat) (s : State) :
    (useCycle cycle e s).ring = s.ring := rfl
@[simp] theorem useCycle_sig (cycle : BitVec 16) (e : Nat) (s : State) :
    (useCycle cycle e s).sig = s.sig := rfl
@[simp] theorem useCycle_pos (cycle : BitVec 16) (e : Nat) (s : State) :
    (useCycle cycle e s).pos = { lastCycle := some cycle, elapsed := e, flat := sinceGrown e s.pos.flat, conv := sinceGrown e s.pos.conv } := rfl
@[simp] theorem useCycle_table (cycle : BitVec 16) (e : Nat) (s : State) :
    (useCycle cycle e s).table = s.table := rfl
@[simp] theorem useCycle_pat (cycle : BitVec 16) (e : Nat) (s : State) :
    (useCycle cycle e s).pat = s.pat := rfl
@[simp] theorem useCycle_fold (cycle : BitVec 16) (e : Nat) (s : State) :
    (useCycle cycle e s).fold = s.fold := rfl
@[simp] theorem useCycle_plan (cycle : BitVec 16) (e : Nat) (s : State) :
    (useCycle cycle e s).plan = s.plan := rfl
@[simp] theorem useCycle_heat (cycle : BitVec 16) (e : Nat) (s : State) :
    (useCycle cycle e s).heat = s.heat := rfl
@[simp] theorem useCycle_gov (cycle : BitVec 16) (e : Nat) (s : State) :
    (useCycle cycle e s).gov = s.gov := rfl
@[simp] theorem useCycle_roll (cycle : BitVec 16) (e : Nat) (s : State) :
    (useCycle cycle e s).roll = s.roll := rfl
@[simp] theorem useCycle_react (cycle : BitVec 16) (e : Nat) (s : State) :
    (useCycle cycle e s).react = s.react := rfl
@[simp] theorem useCycle_mode (cycle : BitVec 16) (e : Nat) (s : State) :
    (useCycle cycle e s).mode = s.mode := rfl
@[simp] theorem useCycle_fault (cycle : BitVec 16) (e : Nat) (s : State) :
    (useCycle cycle e s).fault = s.fault := rfl
@[simp] theorem useCycle_pending (cycle : BitVec 16) (e : Nat) (s : State) :
    (useCycle cycle e s).pending = s.pending := rfl

@[simp] theorem modSlot_ring (n : Nat) (f : PatSlot → PatSlot) (s : State) :
    (modSlot n f s).ring = s.ring := rfl
@[simp] theorem modSlot_sig (n : Nat) (f : PatSlot → PatSlot) (s : State) :
    (modSlot n f s).sig = s.sig := rfl
@[simp] theorem modSlot_pos (n : Nat) (f : PatSlot → PatSlot) (s : State) :
    (modSlot n f s).pos = s.pos := rfl
@[simp] theorem modSlot_table (n : Nat) (f : PatSlot → PatSlot) (s : State) :
    (modSlot n f s).table = s.table := rfl
@[simp] theorem modSlot_pat (n : Nat) (f : PatSlot → PatSlot) (s : State) :
    (modSlot n f s).pat = s.pat.modify n f := rfl
@[simp] theorem modSlot_fold (n : Nat) (f : PatSlot → PatSlot) (s : State) :
    (modSlot n f s).fold = s.fold := rfl
@[simp] theorem modSlot_plan (n : Nat) (f : PatSlot → PatSlot) (s : State) :
    (modSlot n f s).plan = s.plan := rfl
@[simp] theorem modSlot_heat (n : Nat) (f : PatSlot → PatSlot) (s : State) :
    (modSlot n f s).heat = s.heat := rfl
@[simp] theorem modSlot_gov (n : Nat) (f : PatSlot → PatSlot) (s : State) :
    (modSlot n f s).gov = s.gov := rfl
@[simp] theorem modSlot_roll (n : Nat) (f : PatSlot → PatSlot) (s : State) :
    (modSlot n f s).roll = s.roll := rfl
@[simp] theorem modSlot_react (n : Nat) (f : PatSlot → PatSlot) (s : State) :
    (modSlot n f s).react = s.react := rfl
@[simp] theorem modSlot_mode (n : Nat) (f : PatSlot → PatSlot) (s : State) :
    (modSlot n f s).mode = s.mode := rfl
@[simp] theorem modSlot_fault (n : Nat) (f : PatSlot → PatSlot) (s : State) :
    (modSlot n f s).fault = s.fault := rfl
@[simp] theorem modSlot_pending (n : Nat) (f : PatSlot → PatSlot) (s : State) :
    (modSlot n f s).pending = s.pending := rfl

@[simp] theorem modFold_ring (f : Fold → Fold) (s : State) :
    (modFold f s).ring = s.ring := rfl
@[simp] theorem modFold_sig (f : Fold → Fold) (s : State) :
    (modFold f s).sig = s.sig := rfl
@[simp] theorem modFold_pos (f : Fold → Fold) (s : State) :
    (modFold f s).pos = s.pos := rfl
@[simp] theorem modFold_table (f : Fold → Fold) (s : State) :
    (modFold f s).table = s.table := rfl
@[simp] theorem modFold_pat (f : Fold → Fold) (s : State) :
    (modFold f s).pat = s.pat := rfl
@[simp] theorem modFold_fold (f : Fold → Fold) (s : State) :
    (modFold f s).fold = f s.fold := rfl
@[simp] theorem modFold_plan (f : Fold → Fold) (s : State) :
    (modFold f s).plan = s.plan := rfl
@[simp] theorem modFold_heat (f : Fold → Fold) (s : State) :
    (modFold f s).heat = s.heat := rfl
@[simp] theorem modFold_gov (f : Fold → Fold) (s : State) :
    (modFold f s).gov = s.gov := rfl
@[simp] theorem modFold_roll (f : Fold → Fold) (s : State) :
    (modFold f s).roll = s.roll := rfl
@[simp] theorem modFold_react (f : Fold → Fold) (s : State) :
    (modFold f s).react = s.react := rfl
@[simp] theorem modFold_mode (f : Fold → Fold) (s : State) :
    (modFold f s).mode = s.mode := rfl
@[simp] theorem modFold_fault (f : Fold → Fold) (s : State) :
    (modFold f s).fault = s.fault := rfl
@[simp] theorem modFold_pending (f : Fold → Fold) (s : State) :
    (modFold f s).pending = s.pending := rfl

@[simp] theorem setWalk_ring (w : Walk) (s : State) :
    (setWalk w s).ring = s.ring := rfl
@[simp] theorem setWalk_sig (w : Walk) (s : State) :
    (setWalk w s).sig = s.sig := rfl
@[simp] theorem setWalk_pos (w : Walk) (s : State) :
    (setWalk w s).pos = s.pos := rfl
@[simp] theorem setWalk_table (w : Walk) (s : State) :
    (setWalk w s).table = s.table := rfl
@[simp] theorem setWalk_pat (w : Walk) (s : State) :
    (setWalk w s).pat = s.pat := rfl
@[simp] theorem setWalk_plan (w : Walk) (s : State) :
    (setWalk w s).plan = s.plan := rfl
@[simp] theorem setWalk_heat (w : Walk) (s : State) :
    (setWalk w s).heat = s.heat := rfl
@[simp] theorem setWalk_gov (w : Walk) (s : State) :
    (setWalk w s).gov = s.gov := rfl
@[simp] theorem setWalk_roll (w : Walk) (s : State) :
    (setWalk w s).roll = s.roll := rfl
@[simp] theorem setWalk_react (w : Walk) (s : State) :
    (setWalk w s).react = s.react := rfl
@[simp] theorem setWalk_mode (w : Walk) (s : State) :
    (setWalk w s).mode = s.mode := rfl
@[simp] theorem setWalk_fault (w : Walk) (s : State) :
    (setWalk w s).fault = s.fault := rfl
@[simp] theorem setWalk_pending (w : Walk) (s : State) :
    (setWalk w s).pending = s.pending := rfl

@[simp] theorem withSegs_ring (segs : List Seg) (s : State) :
    (withSegs segs s).ring = s.ring := rfl
@[simp] theorem withSegs_sig (segs : List Seg) (s : State) :
    (withSegs segs s).sig = s.sig := rfl
@[simp] theorem withSegs_pos (segs : List Seg) (s : State) :
    (withSegs segs s).pos = s.pos := rfl
@[simp] theorem withSegs_table (segs : List Seg) (s : State) :
    (withSegs segs s).table = s.table := rfl
@[simp] theorem withSegs_pat (segs : List Seg) (s : State) :
    (withSegs segs s).pat = s.pat := rfl
@[simp] theorem withSegs_fold (segs : List Seg) (s : State) :
    (withSegs segs s).fold = s.fold := rfl
@[simp] theorem withSegs_plan (segs : List Seg) (s : State) :
    (withSegs segs s).plan = { s.plan with segs := segs } := rfl
@[simp] theorem withSegs_heat (segs : List Seg) (s : State) :
    (withSegs segs s).heat = s.heat := rfl
@[simp] theorem withSegs_gov (segs : List Seg) (s : State) :
    (withSegs segs s).gov = s.gov := rfl
@[simp] theorem withSegs_roll (segs : List Seg) (s : State) :
    (withSegs segs s).roll = s.roll := rfl
@[simp] theorem withSegs_react (segs : List Seg) (s : State) :
    (withSegs segs s).react = s.react := rfl
@[simp] theorem withSegs_mode (segs : List Seg) (s : State) :
    (withSegs segs s).mode = s.mode := rfl
@[simp] theorem withSegs_fault (segs : List Seg) (s : State) :
    (withSegs segs s).fault = s.fault := rfl
@[simp] theorem withSegs_pending (segs : List Seg) (s : State) :
    (withSegs segs s).pending = s.pending := rfl

@[simp] theorem modHeat_ring (f : Heat → Heat) (s : State) :
    (modHeat f s).ring = s.ring := rfl
@[simp] theorem modHeat_sig (f : Heat → Heat) (s : State) :
    (modHeat f s).sig = s.sig := rfl
@[simp] theorem modHeat_pos (f : Heat → Heat) (s : State) :
    (modHeat f s).pos = s.pos := rfl
@[simp] theorem modHeat_table (f : Heat → Heat) (s : State) :
    (modHeat f s).table = s.table := rfl
@[simp] theorem modHeat_pat (f : Heat → Heat) (s : State) :
    (modHeat f s).pat = s.pat := rfl
@[simp] theorem modHeat_fold (f : Heat → Heat) (s : State) :
    (modHeat f s).fold = s.fold := rfl
@[simp] theorem modHeat_plan (f : Heat → Heat) (s : State) :
    (modHeat f s).plan = s.plan := rfl
@[simp] theorem modHeat_heat (f : Heat → Heat) (s : State) :
    (modHeat f s).heat = f s.heat := rfl
@[simp] theorem modHeat_gov (f : Heat → Heat) (s : State) :
    (modHeat f s).gov = s.gov := rfl
@[simp] theorem modHeat_roll (f : Heat → Heat) (s : State) :
    (modHeat f s).roll = s.roll := rfl
@[simp] theorem modHeat_react (f : Heat → Heat) (s : State) :
    (modHeat f s).react = s.react := rfl
@[simp] theorem modHeat_mode (f : Heat → Heat) (s : State) :
    (modHeat f s).mode = s.mode := rfl
@[simp] theorem modHeat_fault (f : Heat → Heat) (s : State) :
    (modHeat f s).fault = s.fault := rfl
@[simp] theorem modHeat_pending (f : Heat → Heat) (s : State) :
    (modHeat f s).pending = s.pending := rfl

@[simp] theorem modRoll_ring (f : Roll → Roll) (s : State) :
    (modRoll f s).ring = s.ring := rfl
@[simp] theorem modRoll_sig (f : Roll → Roll) (s : State) :
    (modRoll f s).sig = s.sig := rfl
@[simp] theorem modRoll_pos (f : Roll → Roll) (s : State) :
    (modRoll f s).pos = s.pos := rfl
@[simp] theorem modRoll_table (f : Roll → Roll) (s : State) :
    (modRoll f s).table = s.table := rfl
@[simp] theorem modRoll_pat (f : Roll → Roll) (s : State) :
    (modRoll f s).pat = s.pat := rfl
@[simp] theorem modRoll_fold (f : Roll → Roll) (s : State) :
    (modRoll f s).fold = s.fold := rfl
@[simp] theorem modRoll_plan (f : Roll → Roll) (s : State) :
    (modRoll f s).plan = s.plan := rfl
@[simp] theorem modRoll_heat (f : Roll → Roll) (s : State) :
    (modRoll f s).heat = s.heat := rfl
@[simp] theorem modRoll_gov (f : Roll → Roll) (s : State) :
    (modRoll f s).gov = s.gov := rfl
@[simp] theorem modRoll_roll (f : Roll → Roll) (s : State) :
    (modRoll f s).roll = f s.roll := rfl
@[simp] theorem modRoll_react (f : Roll → Roll) (s : State) :
    (modRoll f s).react = s.react := rfl
@[simp] theorem modRoll_mode (f : Roll → Roll) (s : State) :
    (modRoll f s).mode = s.mode := rfl
@[simp] theorem modRoll_fault (f : Roll → Roll) (s : State) :
    (modRoll f s).fault = s.fault := rfl
@[simp] theorem modRoll_pending (f : Roll → Roll) (s : State) :
    (modRoll f s).pending = s.pending := rfl

@[simp] theorem setMode_ring (m : Mode) (s : State) :
    (setMode m s).ring = s.ring := rfl
@[simp] theorem setMode_sig (m : Mode) (s : State) :
    (setMode m s).sig = s.sig := rfl
@[simp] theorem setMode_pos (m : Mode) (s : State) :
    (setMode m s).pos = s.pos := rfl
@[simp] theorem setMode_table (m : Mode) (s : State) :
    (setMode m s).table = s.table := rfl
@[simp] theorem setMode_pat (m : Mode) (s : State) :
    (setMode m s).pat = s.pat := rfl
@[simp] theorem setMode_fold (m : Mode) (s : State) :
    (setMode m s).fold = s.fold := rfl
@[simp] theorem setMode_plan (m : Mode) (s : State) :
    (setMode m s).plan = s.plan := rfl
@[simp] theorem setMode_heat (m : Mode) (s : State) :
    (setMode m s).heat = s.heat := rfl
@[simp] theorem setMode_gov (m : Mode) (s : State) :
    (setMode m s).gov = s.gov := rfl
@[simp] theorem setMode_roll (m : Mode) (s : State) :
    (setMode m s).roll = s.roll := rfl
@[simp] theorem setMode_react (m : Mode) (s : State) :
    (setMode m s).react = s.react := rfl
@[simp] theorem setMode_mode (m : Mode) (s : State) :
    (setMode m s).mode = { s.mode with mode := m } := rfl
@[simp] theorem setMode_fault (m : Mode) (s : State) :
    (setMode m s).fault = s.fault := rfl
@[simp] theorem setMode_pending (m : Mode) (s : State) :
    (setMode m s).pending = s.pending := rfl

@[simp] theorem mapReactions_ring (f : ReactEntry → ReactEntry) (s : State) :
    (mapReactions f s).ring = s.ring := rfl
@[simp] theorem mapReactions_sig (f : ReactEntry → ReactEntry) (s : State) :
    (mapReactions f s).sig = s.sig := rfl
@[simp] theorem mapReactions_pos (f : ReactEntry → ReactEntry) (s : State) :
    (mapReactions f s).pos = s.pos := rfl
@[simp] theorem mapReactions_table (f : ReactEntry → ReactEntry) (s : State) :
    (mapReactions f s).table = s.table := rfl
@[simp] theorem mapReactions_pat (f : ReactEntry → ReactEntry) (s : State) :
    (mapReactions f s).pat = s.pat := rfl
@[simp] theorem mapReactions_fold (f : ReactEntry → ReactEntry) (s : State) :
    (mapReactions f s).fold = s.fold := rfl
@[simp] theorem mapReactions_plan (f : ReactEntry → ReactEntry) (s : State) :
    (mapReactions f s).plan = s.plan := rfl
@[simp] theorem mapReactions_heat (f : ReactEntry → ReactEntry) (s : State) :
    (mapReactions f s).heat = s.heat := rfl
@[simp] theorem mapReactions_gov (f : ReactEntry → ReactEntry) (s : State) :
    (mapReactions f s).gov = s.gov := rfl
@[simp] theorem mapReactions_roll (f : ReactEntry → ReactEntry) (s : State) :
    (mapReactions f s).roll = s.roll := rfl
@[simp] theorem mapReactions_react (f : ReactEntry → ReactEntry) (s : State) :
    (mapReactions f s).react = { s.react with entries := s.react.entries.map f } := rfl
@[simp] theorem mapReactions_mode (f : ReactEntry → ReactEntry) (s : State) :
    (mapReactions f s).mode = s.mode := rfl
@[simp] theorem mapReactions_fault (f : ReactEntry → ReactEntry) (s : State) :
    (mapReactions f s).fault = s.fault := rfl
@[simp] theorem mapReactions_pending (f : ReactEntry → ReactEntry) (s : State) :
    (mapReactions f s).pending = s.pending := rfl

@[simp] theorem modTrip_ring (x : TripInput) (f : Trip → Trip) (s : State) :
    (modTrip x f s).ring = s.ring := by cases x <;> rfl
@[simp] theorem modTrip_pos (x : TripInput) (f : Trip → Trip) (s : State) :
    (modTrip x f s).pos = s.pos := by cases x <;> rfl
@[simp] theorem modTrip_table (x : TripInput) (f : Trip → Trip) (s : State) :
    (modTrip x f s).table = s.table := by cases x <;> rfl
@[simp] theorem modTrip_pat (x : TripInput) (f : Trip → Trip) (s : State) :
    (modTrip x f s).pat = s.pat := by cases x <;> rfl
@[simp] theorem modTrip_fold (x : TripInput) (f : Trip → Trip) (s : State) :
    (modTrip x f s).fold = s.fold := by cases x <;> rfl
@[simp] theorem modTrip_plan (x : TripInput) (f : Trip → Trip) (s : State) :
    (modTrip x f s).plan = s.plan := by cases x <;> rfl
@[simp] theorem modTrip_heat (x : TripInput) (f : Trip → Trip) (s : State) :
    (modTrip x f s).heat = s.heat := by cases x <;> rfl
@[simp] theorem modTrip_gov (x : TripInput) (f : Trip → Trip) (s : State) :
    (modTrip x f s).gov = s.gov := by cases x <;> rfl
@[simp] theorem modTrip_roll (x : TripInput) (f : Trip → Trip) (s : State) :
    (modTrip x f s).roll = s.roll := by cases x <;> rfl
@[simp] theorem modTrip_react (x : TripInput) (f : Trip → Trip) (s : State) :
    (modTrip x f s).react = s.react := by cases x <;> rfl
@[simp] theorem modTrip_mode (x : TripInput) (f : Trip → Trip) (s : State) :
    (modTrip x f s).mode = s.mode := by cases x <;> rfl
@[simp] theorem modTrip_fault (x : TripInput) (f : Trip → Trip) (s : State) :
    (modTrip x f s).fault = s.fault := by cases x <;> rfl
@[simp] theorem modTrip_pending (x : TripInput) (f : Trip → Trip) (s : State) :
    (modTrip x f s).pending = s.pending := by cases x <;> rfl

@[simp] theorem modTable_ring (f : LineTable → LineTable) (s : State) :
    (modTable f s).ring = s.ring := rfl
@[simp] theorem modTable_sig (f : LineTable → LineTable) (s : State) :
    (modTable f s).sig = s.sig := rfl
@[simp] theorem modTable_pos (f : LineTable → LineTable) (s : State) :
    (modTable f s).pos = s.pos := rfl
@[simp] theorem modTable_table (f : LineTable → LineTable) (s : State) :
    (modTable f s).table = f s.table := rfl
@[simp] theorem modTable_pat (f : LineTable → LineTable) (s : State) :
    (modTable f s).pat = s.pat := rfl
@[simp] theorem modTable_fold (f : LineTable → LineTable) (s : State) :
    (modTable f s).fold = s.fold := rfl
@[simp] theorem modTable_plan (f : LineTable → LineTable) (s : State) :
    (modTable f s).plan = s.plan := rfl
@[simp] theorem modTable_heat (f : LineTable → LineTable) (s : State) :
    (modTable f s).heat = s.heat := rfl
@[simp] theorem modTable_gov (f : LineTable → LineTable) (s : State) :
    (modTable f s).gov = s.gov := rfl
@[simp] theorem modTable_roll (f : LineTable → LineTable) (s : State) :
    (modTable f s).roll = s.roll := rfl
@[simp] theorem modTable_react (f : LineTable → LineTable) (s : State) :
    (modTable f s).react = s.react := rfl
@[simp] theorem modTable_mode (f : LineTable → LineTable) (s : State) :
    (modTable f s).mode = s.mode := rfl
@[simp] theorem modTable_fault (f : LineTable → LineTable) (s : State) :
    (modTable f s).fault = s.fault := rfl
@[simp] theorem modTable_pending (f : LineTable → LineTable) (s : State) :
    (modTable f s).pending = s.pending := rfl

@[simp] theorem sendOut_ring (o : RingOut) (s : State) :
    (sendOut o s).ring = { s.ring with out := o } := rfl
@[simp] theorem sendOut_sig (o : RingOut) (s : State) :
    (sendOut o s).sig = s.sig := rfl
@[simp] theorem sendOut_pos (o : RingOut) (s : State) :
    (sendOut o s).pos = s.pos := rfl
@[simp] theorem sendOut_table (o : RingOut) (s : State) :
    (sendOut o s).table = s.table := rfl
@[simp] theorem sendOut_pat (o : RingOut) (s : State) :
    (sendOut o s).pat = s.pat := rfl
@[simp] theorem sendOut_fold (o : RingOut) (s : State) :
    (sendOut o s).fold = s.fold := rfl
@[simp] theorem sendOut_plan (o : RingOut) (s : State) :
    (sendOut o s).plan = s.plan := rfl
@[simp] theorem sendOut_heat (o : RingOut) (s : State) :
    (sendOut o s).heat = s.heat := rfl
@[simp] theorem sendOut_gov (o : RingOut) (s : State) :
    (sendOut o s).gov = s.gov := rfl
@[simp] theorem sendOut_roll (o : RingOut) (s : State) :
    (sendOut o s).roll = s.roll := rfl
@[simp] theorem sendOut_react (o : RingOut) (s : State) :
    (sendOut o s).react = s.react := rfl
@[simp] theorem sendOut_mode (o : RingOut) (s : State) :
    (sendOut o s).mode = s.mode := rfl
@[simp] theorem sendOut_fault (o : RingOut) (s : State) :
    (sendOut o s).fault = s.fault := rfl
@[simp] theorem sendOut_pending (o : RingOut) (s : State) :
    (sendOut o s).pending = s.pending := rfl

@[simp] theorem startTimer_ring (s : State) :
    (startTimer s).ring = { s.ring with timer := some (4 * s.par Par.cycleUs) } := rfl
@[simp] theorem startTimer_sig (s : State) :
    (startTimer s).sig = s.sig := rfl
@[simp] theorem startTimer_pos (s : State) :
    (startTimer s).pos = s.pos := rfl
@[simp] theorem startTimer_table (s : State) :
    (startTimer s).table = s.table := rfl
@[simp] theorem startTimer_pat (s : State) :
    (startTimer s).pat = s.pat := rfl
@[simp] theorem startTimer_fold (s : State) :
    (startTimer s).fold = s.fold := rfl
@[simp] theorem startTimer_plan (s : State) :
    (startTimer s).plan = s.plan := rfl
@[simp] theorem startTimer_heat (s : State) :
    (startTimer s).heat = s.heat := rfl
@[simp] theorem startTimer_gov (s : State) :
    (startTimer s).gov = s.gov := rfl
@[simp] theorem startTimer_roll (s : State) :
    (startTimer s).roll = s.roll := rfl
@[simp] theorem startTimer_react (s : State) :
    (startTimer s).react = s.react := rfl
@[simp] theorem startTimer_mode (s : State) :
    (startTimer s).mode = s.mode := rfl
@[simp] theorem startTimer_fault (s : State) :
    (startTimer s).fault = s.fault := rfl
@[simp] theorem startTimer_pending (s : State) :
    (startTimer s).pending = s.pending := rfl

@[simp] theorem govern_ring (speed : Word) (e : Nat) (s : State) :
    (govern speed e s).ring = s.ring := rfl
@[simp] theorem govern_sig (speed : Word) (e : Nat) (s : State) :
    (govern speed e s).sig = s.sig := rfl
@[simp] theorem govern_pos (speed : Word) (e : Nat) (s : State) :
    (govern speed e s).pos = s.pos := rfl
@[simp] theorem govern_table (speed : Word) (e : Nat) (s : State) :
    (govern speed e s).table = s.table := rfl
@[simp] theorem govern_pat (speed : Word) (e : Nat) (s : State) :
    (govern speed e s).pat = s.pat := rfl
@[simp] theorem govern_fold (speed : Word) (e : Nat) (s : State) :
    (govern speed e s).fold = s.fold := rfl
@[simp] theorem govern_plan (speed : Word) (e : Nat) (s : State) :
    (govern speed e s).plan = s.plan := rfl
@[simp] theorem govern_heat (speed : Word) (e : Nat) (s : State) :
    (govern speed e s).heat = s.heat := rfl
@[simp] theorem govern_roll (speed : Word) (e : Nat) (s : State) :
    (govern speed e s).roll = s.roll := rfl
@[simp] theorem govern_react (speed : Word) (e : Nat) (s : State) :
    (govern speed e s).react = s.react := rfl
@[simp] theorem govern_fault (speed : Word) (e : Nat) (s : State) :
    (govern speed e s).fault = s.fault := rfl
@[simp] theorem govern_pending (speed : Word) (e : Nat) (s : State) :
    (govern speed e s).pending = s.pending := rfl

@[simp] theorem forwardCycle_sig (f : CycleFrame) (s : State) :
    (forwardCycle f s).sig = s.sig := rfl
@[simp] theorem forwardCycle_pos (f : CycleFrame) (s : State) :
    (forwardCycle f s).pos = s.pos := rfl
@[simp] theorem forwardCycle_table (f : CycleFrame) (s : State) :
    (forwardCycle f s).table = s.table := rfl
@[simp] theorem forwardCycle_pat (f : CycleFrame) (s : State) :
    (forwardCycle f s).pat = s.pat := rfl
@[simp] theorem forwardCycle_fold (f : CycleFrame) (s : State) :
    (forwardCycle f s).fold = s.fold := rfl
@[simp] theorem forwardCycle_plan (f : CycleFrame) (s : State) :
    (forwardCycle f s).plan = s.plan := rfl
@[simp] theorem forwardCycle_heat (f : CycleFrame) (s : State) :
    (forwardCycle f s).heat = s.heat := rfl
@[simp] theorem forwardCycle_gov (f : CycleFrame) (s : State) :
    (forwardCycle f s).gov = s.gov := rfl
@[simp] theorem forwardCycle_roll (f : CycleFrame) (s : State) :
    (forwardCycle f s).roll = s.roll := rfl
@[simp] theorem forwardCycle_react (f : CycleFrame) (s : State) :
    (forwardCycle f s).react = s.react := rfl
@[simp] theorem forwardCycle_mode (f : CycleFrame) (s : State) :
    (forwardCycle f s).mode = s.mode := rfl
@[simp] theorem forwardCycle_fault (f : CycleFrame) (s : State) :
    (forwardCycle f s).fault = s.fault := rfl
@[simp] theorem forwardCycle_pending (f : CycleFrame) (s : State) :
    (forwardCycle f s).pending = s.pending := rfl

@[simp] theorem finalVerdicts_ring (s : State) :
    (finalVerdicts s).ring = s.ring := rfl
@[simp] theorem finalVerdicts_sig (s : State) :
    (finalVerdicts s).sig = s.sig := rfl
@[simp] theorem finalVerdicts_pos (s : State) :
    (finalVerdicts s).pos = s.pos := rfl
@[simp] theorem finalVerdicts_table (s : State) :
    (finalVerdicts s).table = s.table := rfl
@[simp] theorem finalVerdicts_pat (s : State) :
    (finalVerdicts s).pat = s.pat := rfl
@[simp] theorem finalVerdicts_fold (s : State) :
    (finalVerdicts s).fold = s.fold := rfl
@[simp] theorem finalVerdicts_heat (s : State) :
    (finalVerdicts s).heat = s.heat := rfl
@[simp] theorem finalVerdicts_gov (s : State) :
    (finalVerdicts s).gov = s.gov := rfl
@[simp] theorem finalVerdicts_roll (s : State) :
    (finalVerdicts s).roll = s.roll := rfl
@[simp] theorem finalVerdicts_react (s : State) :
    (finalVerdicts s).react = s.react := rfl
@[simp] theorem finalVerdicts_mode (s : State) :
    (finalVerdicts s).mode = s.mode := rfl
@[simp] theorem finalVerdicts_fault (s : State) :
    (finalVerdicts s).fault = s.fault := rfl
@[simp] theorem finalVerdicts_pending (s : State) :
    (finalVerdicts s).pending = s.pending := rfl

@[simp] theorem clearRunState_ring (s : State) :
    (clearRunState s).ring = s.ring := rfl
@[simp] theorem clearRunState_sig (s : State) :
    (clearRunState s).sig = s.sig := rfl
@[simp] theorem clearRunState_table (s : State) :
    (clearRunState s).table = s.table := rfl
@[simp] theorem clearRunState_gov (s : State) :
    (clearRunState s).gov = s.gov := rfl
@[simp] theorem clearRunState_mode (s : State) :
    (clearRunState s).mode = s.mode := rfl
@[simp] theorem clearRunState_fault (s : State) :
    (clearRunState s).fault = s.fault := rfl
@[simp] theorem clearRunState_pending (s : State) :
    (clearRunState s).pending = s.pending := rfl

end Sys2Proof.Machine
end

