-- ==== Sys2Proof/Laws/Frames.lean ====
section
/-! SUPPORT. The frame of every operation: the blocks it leaves as they were, said once for each operation, so
that no later proof unfolds it for that. -/
set_option Elab.async false
namespace Sys2Proof.Machine

/-- What every step of a fold over the state keeps, the fold keeps. -/
theorem foldl_keeps {α β : Type} (f : State → β → State) (g : State → α) (h : ∀ s b, g (f s b) = g s)
    (l : List β) (s : State) : g (l.foldl f s) = g s := by
  induction l generalizing s with
  | nil => rfl
  | cons b t ih => simp [ih, h]

@[simp] theorem raiseCond_frame (c : Cond) (detail : Nat) (subject : Subject) (s : State) :
    (raiseCond c detail subject s).ring = s.ring ∧ (raiseCond c detail subject s).sig = s.sig ∧
      (raiseCond c detail subject s).pos = s.pos ∧ (raiseCond c detail subject s).table = s.table ∧
      (raiseCond c detail subject s).pat = s.pat ∧ (raiseCond c detail subject s).fold = s.fold ∧
      (raiseCond c detail subject s).plan = s.plan ∧ (raiseCond c detail subject s).heat = s.heat ∧
      (raiseCond c detail subject s).gov = s.gov ∧ (raiseCond c detail subject s).roll = s.roll ∧
      (raiseCond c detail subject s).mode = s.mode ∧
      (raiseCond c detail subject s).pending = s.pending := by
  unfold raiseCond; split <;> simp

@[simp] theorem judgeCond_frame (c : Cond) (found : Bool) (detail : Nat) (subject : Subject) (s : State) :
    (judgeCond c found detail subject s).ring = s.ring ∧ (judgeCond c found detail subject s).sig = s.sig ∧
      (judgeCond c found detail subject s).pos = s.pos ∧
      (judgeCond c found detail subject s).table = s.table ∧
      (judgeCond c found detail subject s).pat = s.pat ∧
      (judgeCond c found detail subject s).fold = s.fold ∧
      (judgeCond c found detail subject s).plan = s.plan ∧
      (judgeCond c found detail subject s).heat = s.heat ∧
      (judgeCond c found detail subject s).gov = s.gov ∧
      (judgeCond c found detail subject s).roll = s.roll ∧
      (judgeCond c found detail subject s).mode = s.mode ∧
      (judgeCond c found detail subject s).pending = s.pending := by
  unfold judgeCond; split <;> simp

@[simp] theorem allocSerial_frame (s : State) :
    (allocSerial s).2.ring = s.ring ∧ (allocSerial s).2.sig = s.sig ∧ (allocSerial s).2.pos = s.pos ∧
      (allocSerial s).2.table = s.table ∧ (allocSerial s).2.pat = s.pat ∧ (allocSerial s).2.fold = s.fold ∧
      (allocSerial s).2.heat = s.heat ∧ (allocSerial s).2.gov = s.gov ∧ (allocSerial s).2.roll = s.roll ∧
      (allocSerial s).2.react = s.react ∧ (allocSerial s).2.mode = s.mode ∧
      (allocSerial s).2.fault = s.fault ∧ (allocSerial s).2.pending = s.pending := by
  unfold allocSerial; simp

@[simp] theorem judgeWebReverse_frame (s : State) :
    (judgeWebReverse s).ring = s.ring ∧ (judgeWebReverse s).sig = s.sig ∧ (judgeWebReverse s).pos = s.pos ∧
      (judgeWebReverse s).table = s.table ∧ (judgeWebReverse s).pat = s.pat ∧
      (judgeWebReverse s).fold = s.fold ∧ (judgeWebReverse s).plan = s.plan ∧
      (judgeWebReverse s).heat = s.heat ∧ (judgeWebReverse s).gov = s.gov ∧
      (judgeWebReverse s).roll = s.roll ∧ (judgeWebReverse s).mode = s.mode ∧
      (judgeWebReverse s).pending = s.pending := by
  unfold judgeWebReverse; simp

@[simp] theorem feedJump_frame (s : State) :
    (feedJump s).ring = s.ring ∧ (feedJump s).sig = s.sig ∧ (feedJump s).table = s.table ∧
      (feedJump s).pat = s.pat ∧ (feedJump s).fold = s.fold ∧ (feedJump s).plan = s.plan ∧
      (feedJump s).heat = s.heat ∧ (feedJump s).gov = s.gov ∧ (feedJump s).roll = s.roll ∧
      (feedJump s).mode = s.mode ∧ (feedJump s).pending = s.pending := by
  unfold feedJump; split <;> simp

@[simp] theorem convJump_frame (s : State) :
    (convJump s).ring = s.ring ∧ (convJump s).sig = s.sig ∧ (convJump s).table = s.table ∧
      (convJump s).pat = s.pat ∧ (convJump s).fold = s.fold ∧ (convJump s).plan = s.plan ∧
      (convJump s).heat = s.heat ∧ (convJump s).gov = s.gov ∧ (convJump s).roll = s.roll ∧
      (convJump s).mode = s.mode ∧ (convJump s).pending = s.pending := by
  unfold convJump; split <;> simp

@[simp] theorem feedAccept_frame (raw : Word) (s : State) :
    (feedAccept raw s).ring = s.ring ∧ (feedAccept raw s).sig = s.sig ∧ (feedAccept raw s).table = s.table ∧
      (feedAccept raw s).pat = s.pat ∧ (feedAccept raw s).fold = s.fold ∧ (feedAccept raw s).plan = s.plan ∧
      (feedAccept raw s).heat = s.heat ∧ (feedAccept raw s).gov = s.gov ∧ (feedAccept raw s).roll = s.roll ∧
      (feedAccept raw s).mode = s.mode ∧ (feedAccept raw s).pending = s.pending := by
  unfold feedAccept
  dsimp only
  (repeat' split) <;> simp

@[simp] theorem convAccept_frame (raw : Word) (s : State) :
    (convAccept raw s).ring = s.ring ∧ (convAccept raw s).sig = s.sig ∧ (convAccept raw s).table = s.table ∧
      (convAccept raw s).pat = s.pat ∧ (convAccept raw s).fold = s.fold ∧ (convAccept raw s).plan = s.plan ∧
      (convAccept raw s).heat = s.heat ∧ (convAccept raw s).gov = s.gov ∧ (convAccept raw s).roll = s.roll ∧
      (convAccept raw s).mode = s.mode ∧ (convAccept raw s).pending = s.pending := by
  unfold convAccept
  dsimp only
  (repeat' split) <;> simp

@[simp] theorem reqOpenSlot_frame (args : List Word) (s : State) :
    (reqOpenSlot args s).1.ring = s.ring ∧ (reqOpenSlot args s).1.sig = s.sig ∧
      (reqOpenSlot args s).1.pos = s.pos ∧ (reqOpenSlot args s).1.table = s.table ∧
      (reqOpenSlot args s).1.fold = s.fold ∧ (reqOpenSlot args s).1.plan = s.plan ∧
      (reqOpenSlot args s).1.heat = s.heat ∧ (reqOpenSlot args s).1.gov = s.gov ∧
      (reqOpenSlot args s).1.roll = s.roll ∧ (reqOpenSlot args s).1.react = s.react ∧
      (reqOpenSlot args s).1.mode = s.mode ∧ (reqOpenSlot args s).1.fault = s.fault ∧
      (reqOpenSlot args s).1.pending = s.pending := by
  unfold reqOpenSlot; repeat' split
  all_goals simp

@[simp] theorem reqWriteEntries_frame (args : List Word) (s : State) :
    (reqWriteEntries args s).1.ring = s.ring ∧ (reqWriteEntries args s).1.sig = s.sig ∧
      (reqWriteEntries args s).1.pos = s.pos ∧ (reqWriteEntries args s).1.table = s.table ∧
      (reqWriteEntries args s).1.fold = s.fold ∧ (reqWriteEntries args s).1.plan = s.plan ∧
      (reqWriteEntries args s).1.heat = s.heat ∧ (reqWriteEntries args s).1.gov = s.gov ∧
      (reqWriteEntries args s).1.roll = s.roll ∧ (reqWriteEntries args s).1.react = s.react ∧
      (reqWriteEntries args s).1.mode = s.mode ∧ (reqWriteEntries args s).1.fault = s.fault ∧
      (reqWriteEntries args s).1.pending = s.pending := by
  unfold reqWriteEntries; repeat' split
  all_goals simp

@[simp] theorem reqCloseSlot_frame (args : List Word) (s : State) :
    (reqCloseSlot args s).1.ring = s.ring ∧ (reqCloseSlot args s).1.sig = s.sig ∧
      (reqCloseSlot args s).1.pos = s.pos ∧ (reqCloseSlot args s).1.table = s.table ∧
      (reqCloseSlot args s).1.fold = s.fold ∧ (reqCloseSlot args s).1.plan = s.plan ∧
      (reqCloseSlot args s).1.heat = s.heat ∧ (reqCloseSlot args s).1.gov = s.gov ∧
      (reqCloseSlot args s).1.roll = s.roll ∧ (reqCloseSlot args s).1.react = s.react ∧
      (reqCloseSlot args s).1.mode = s.mode ∧ (reqCloseSlot args s).1.fault = s.fault ∧
      (reqCloseSlot args s).1.pending = s.pending := by
  unfold reqCloseSlot
  dsimp only
  (repeat' split) <;> simp

@[simp] theorem reqReleaseSlot_frame (args : List Word) (s : State) :
    (reqReleaseSlot args s).1.ring = s.ring ∧ (reqReleaseSlot args s).1.sig = s.sig ∧
      (reqReleaseSlot args s).1.pos = s.pos ∧ (reqReleaseSlot args s).1.table = s.table ∧
      (reqReleaseSlot args s).1.fold = s.fold ∧ (reqReleaseSlot args s).1.plan = s.plan ∧
      (reqReleaseSlot args s).1.heat = s.heat ∧ (reqReleaseSlot args s).1.gov = s.gov ∧
      (reqReleaseSlot args s).1.roll = s.roll ∧ (reqReleaseSlot args s).1.react = s.react ∧
      (reqReleaseSlot args s).1.mode = s.mode ∧ (reqReleaseSlot args s).1.fault = s.fault ∧
      (reqReleaseSlot args s).1.pending = s.pending := by
  unfold reqReleaseSlot; repeat' split
  all_goals simp

@[simp] theorem reqReadSlot_frame (args : List Word) (s : State) :
    (reqReadSlot args s).1.ring = s.ring ∧ (reqReadSlot args s).1.sig = s.sig ∧
      (reqReadSlot args s).1.pos = s.pos ∧ (reqReadSlot args s).1.table = s.table ∧
      (reqReadSlot args s).1.pat = s.pat ∧ (reqReadSlot args s).1.fold = s.fold ∧
      (reqReadSlot args s).1.plan = s.plan ∧ (reqReadSlot args s).1.heat = s.heat ∧
      (reqReadSlot args s).1.gov = s.gov ∧ (reqReadSlot args s).1.roll = s.roll ∧
      (reqReadSlot args s).1.react = s.react ∧ (reqReadSlot args s).1.mode = s.mode ∧
      (reqReadSlot args s).1.fault = s.fault ∧ (reqReadSlot args s).1.pending = s.pending := by
  unfold reqReadSlot
  dsimp only
  (repeat' split) <;> simp

@[simp] theorem markRec_frame (serial : SegSerial) (r : Reject) (s : State) :
    (markRec serial r s).ring = s.ring ∧ (markRec serial r s).sig = s.sig ∧
      (markRec serial r s).pos = s.pos ∧ (markRec serial r s).table = s.table ∧
      (markRec serial r s).pat = s.pat ∧ (markRec serial r s).fold = s.fold ∧
      (markRec serial r s).heat = s.heat ∧ (markRec serial r s).gov = s.gov ∧
      (markRec serial r s).roll = s.roll ∧ (markRec serial r s).react = s.react ∧
      (markRec serial r s).mode = s.mode ∧ (markRec serial r s).fault = s.fault ∧
      (markRec serial r s).pending = s.pending := by
  unfold markRec; simp

@[simp] theorem judgeBladeFault_frame (s : State) :
    (judgeBladeFault s).ring = s.ring ∧ (judgeBladeFault s).sig = s.sig ∧ (judgeBladeFault s).pos = s.pos ∧
      (judgeBladeFault s).table = s.table ∧ (judgeBladeFault s).pat = s.pat ∧
      (judgeBladeFault s).fold = s.fold ∧ (judgeBladeFault s).plan = s.plan ∧
      (judgeBladeFault s).heat = s.heat ∧ (judgeBladeFault s).gov = s.gov ∧
      (judgeBladeFault s).roll = s.roll ∧ (judgeBladeFault s).mode = s.mode ∧
      (judgeBladeFault s).fault = s.fault ∧ (judgeBladeFault s).pending = s.pending := by
  unfold judgeBladeFault; simp

@[simp] theorem setBladeStatus_frame (status : Option BladeStatus) (s : State) :
    (setBladeStatus status s).ring = s.ring ∧ (setBladeStatus status s).sig = s.sig ∧
      (setBladeStatus status s).pos = s.pos ∧ (setBladeStatus status s).table = s.table ∧
      (setBladeStatus status s).pat = s.pat ∧ (setBladeStatus status s).plan = s.plan ∧
      (setBladeStatus status s).heat = s.heat ∧ (setBladeStatus status s).gov = s.gov ∧
      (setBladeStatus status s).roll = s.roll ∧ (setBladeStatus status s).mode = s.mode ∧
      (setBladeStatus status s).pending = s.pending := by
  unfold setBladeStatus; split <;> simp

@[simp] theorem completeStroke_frame (s : State) :
    (completeStroke s).ring = s.ring ∧ (completeStroke s).sig = s.sig ∧ (completeStroke s).pos = s.pos ∧
      (completeStroke s).table = s.table ∧ (completeStroke s).pat = s.pat ∧
      (completeStroke s).plan = s.plan ∧ (completeStroke s).heat = s.heat ∧ (completeStroke s).gov = s.gov ∧
      (completeStroke s).roll = s.roll ∧ (completeStroke s).mode = s.mode ∧
      (completeStroke s).fault = s.fault ∧ (completeStroke s).pending = s.pending := by
  unfold completeStroke; simp

@[simp] theorem failStroke_frame (x : Stroke) (s : State) :
    (failStroke x s).ring = s.ring ∧ (failStroke x s).sig = s.sig ∧ (failStroke x s).pos = s.pos ∧
      (failStroke x s).table = s.table ∧ (failStroke x s).pat = s.pat ∧ (failStroke x s).heat = s.heat ∧
      (failStroke x s).gov = s.gov ∧ (failStroke x s).roll = s.roll ∧ (failStroke x s).mode = s.mode ∧
      (failStroke x s).pending = s.pending := by
  unfold failStroke; split <;> simp

@[simp] theorem takeDoneSerial_frame (status : BladeStatus) (done : Serial8) (s : State) :
    (takeDoneSerial status done s).ring = s.ring ∧ (takeDoneSerial status done s).sig = s.sig ∧
      (takeDoneSerial status done s).pos = s.pos ∧ (takeDoneSerial status done s).table = s.table ∧
      (takeDoneSerial status done s).pat = s.pat ∧ (takeDoneSerial status done s).heat = s.heat ∧
      (takeDoneSerial status done s).gov = s.gov ∧ (takeDoneSerial status done s).roll = s.roll ∧
      (takeDoneSerial status done s).mode = s.mode ∧
      (takeDoneSerial status done s).pending = s.pending := by
  unfold takeDoneSerial; repeat' split
  all_goals simp

@[simp] theorem takeBladeState_frame (status : BladeStatus) (done : Serial8) (s : State) :
    (takeBladeState status done s).ring = s.ring ∧ (takeBladeState status done s).sig = s.sig ∧
      (takeBladeState status done s).pos = s.pos ∧ (takeBladeState status done s).table = s.table ∧
      (takeBladeState status done s).pat = s.pat ∧ (takeBladeState status done s).heat = s.heat ∧
      (takeBladeState status done s).gov = s.gov ∧ (takeBladeState status done s).roll = s.roll ∧
      (takeBladeState status done s).mode = s.mode ∧
      (takeBladeState status done s).pending = s.pending := by
  unfold takeBladeState; simp

@[simp] theorem bladeStateLost_frame (s : State) :
    (bladeStateLost s).ring = s.ring ∧ (bladeStateLost s).sig = s.sig ∧ (bladeStateLost s).pos = s.pos ∧
      (bladeStateLost s).table = s.table ∧ (bladeStateLost s).pat = s.pat ∧
      (bladeStateLost s).plan = s.plan ∧ (bladeStateLost s).heat = s.heat ∧ (bladeStateLost s).gov = s.gov ∧
      (bladeStateLost s).roll = s.roll ∧ (bladeStateLost s).mode = s.mode ∧
      (bladeStateLost s).pending = s.pending := by
  unfold bladeStateLost; simp

@[simp] theorem ageStroke_frame (s : State) :
    (ageStroke s).ring = s.ring ∧ (ageStroke s).sig = s.sig ∧ (ageStroke s).pos = s.pos ∧
      (ageStroke s).table = s.table ∧ (ageStroke s).pat = s.pat ∧ (ageStroke s).heat = s.heat ∧
      (ageStroke s).gov = s.gov ∧ (ageStroke s).roll = s.roll ∧ (ageStroke s).mode = s.mode ∧
      (ageStroke s).pending = s.pending := by
  unfold ageStroke
  dsimp only
  (repeat' split) <;> simp

@[simp] theorem judgeLateness_frame (g : BladeSeg) (late : Nat) (s : State) :
    (judgeLateness g late s).ring = s.ring ∧ (judgeLateness g late s).sig = s.sig ∧
      (judgeLateness g late s).pos = s.pos ∧ (judgeLateness g late s).table = s.table ∧
      (judgeLateness g late s).pat = s.pat ∧ (judgeLateness g late s).fold = s.fold ∧
      (judgeLateness g late s).heat = s.heat ∧ (judgeLateness g late s).gov = s.gov ∧
      (judgeLateness g late s).roll = s.roll ∧ (judgeLateness g late s).mode = s.mode ∧
      (judgeLateness g late s).pending = s.pending := by
  unfold judgeLateness; split <;> simp

@[simp] theorem issueStroke_frame (c : Serial8) (g : BladeSeg) (w : Walk) (f : PendingFold) (s : State) :
    (issueStroke c g w f s).ring = s.ring ∧ (issueStroke c g w f s).sig = s.sig ∧
      (issueStroke c g w f s).pos = s.pos ∧ (issueStroke c g w f s).table = s.table ∧
      (issueStroke c g w f s).pat = s.pat ∧ (issueStroke c g w f s).heat = s.heat ∧
      (issueStroke c g w f s).gov = s.gov ∧ (issueStroke c g w f s).roll = s.roll ∧
      (issueStroke c g w f s).mode = s.mode ∧ (issueStroke c g w f s).pending = s.pending := by
  unfold issueStroke; simp

@[simp] theorem issueTest_frame (c : Serial8) (s : State) :
    (issueTest c s).ring = s.ring ∧ (issueTest c s).sig = s.sig ∧ (issueTest c s).pos = s.pos ∧
      (issueTest c s).table = s.table ∧ (issueTest c s).pat = s.pat ∧ (issueTest c s).heat = s.heat ∧
      (issueTest c s).gov = s.gov ∧ (issueTest c s).roll = s.roll ∧ (issueTest c s).mode = s.mode ∧
      (issueTest c s).pending = s.pending := by
  unfold issueTest; split <;> simp

@[simp] theorem abortWalk_frame (r : Reject) (s : State) :
    (abortWalk r s).ring = s.ring ∧ (abortWalk r s).sig = s.sig ∧ (abortWalk r s).pos = s.pos ∧
      (abortWalk r s).table = s.table ∧ (abortWalk r s).pat = s.pat ∧ (abortWalk r s).heat = s.heat ∧
      (abortWalk r s).gov = s.gov ∧ (abortWalk r s).roll = s.roll ∧ (abortWalk r s).react = s.react ∧
      (abortWalk r s).mode = s.mode ∧ (abortWalk r s).fault = s.fault ∧
      (abortWalk r s).pending = s.pending := by
  unfold abortWalk; repeat' split
  all_goals simp

@[simp] theorem newSeg_frame (kind : SegKind) (start len : Nat) (anchored : Bool) (s : State) :
    (newSeg kind start len anchored s).2.ring = s.ring ∧ (newSeg kind start len anchored s).2.sig = s.sig ∧
      (newSeg kind start len anchored s).2.pos = s.pos ∧
      (newSeg kind start len anchored s).2.table = s.table ∧
      (newSeg kind start len anchored s).2.pat = s.pat ∧
      (newSeg kind start len anchored s).2.fold = s.fold ∧
      (newSeg kind start len anchored s).2.heat = s.heat ∧
      (newSeg kind start len anchored s).2.gov = s.gov ∧
      (newSeg kind start len anchored s).2.roll = s.roll ∧
      (newSeg kind start len anchored s).2.react = s.react ∧
      (newSeg kind start len anchored s).2.mode = s.mode ∧
      (newSeg kind start len anchored s).2.fault = s.fault ∧
      (newSeg kind start len anchored s).2.pending = s.pending := by
  unfold newSeg; simp

@[simp] theorem newSegs_frame (kind : SegKind) (anchored : Bool) (l : List (Nat × Nat)) (s : State) :
    (newSegs kind anchored l s).2.ring = s.ring ∧ (newSegs kind anchored l s).2.sig = s.sig ∧
      (newSegs kind anchored l s).2.pos = s.pos ∧ (newSegs kind anchored l s).2.table = s.table ∧
      (newSegs kind anchored l s).2.pat = s.pat ∧ (newSegs kind anchored l s).2.fold = s.fold ∧
      (newSegs kind anchored l s).2.heat = s.heat ∧ (newSegs kind anchored l s).2.gov = s.gov ∧
      (newSegs kind anchored l s).2.roll = s.roll ∧ (newSegs kind anchored l s).2.react = s.react ∧
      (newSegs kind anchored l s).2.mode = s.mode ∧ (newSegs kind anchored l s).2.fault = s.fault ∧
      (newSegs kind anchored l s).2.pending = s.pending := by
  induction l generalizing s with
  | nil => simp [newSegs]
  | cons x t ih => simp [newSegs, ih]

@[simp] theorem replanWith_frame (movable anchored : List Seg) (s : State) :
    (replanWith movable anchored s).ring = s.ring ∧ (replanWith movable anchored s).sig = s.sig ∧
      (replanWith movable anchored s).pos = s.pos ∧ (replanWith movable anchored s).table = s.table ∧
      (replanWith movable anchored s).pat = s.pat ∧ (replanWith movable anchored s).fold = s.fold ∧
      (replanWith movable anchored s).heat = s.heat ∧ (replanWith movable anchored s).gov = s.gov ∧
      (replanWith movable anchored s).roll = s.roll ∧ (replanWith movable anchored s).react = s.react ∧
      (replanWith movable anchored s).mode = s.mode ∧ (replanWith movable anchored s).fault = s.fault ∧
      (replanWith movable anchored s).pending = s.pending := by
  unfold replanWith; simp

@[simp] theorem replan_frame (s : State) :
    (replan s).ring = s.ring ∧ (replan s).sig = s.sig ∧ (replan s).pos = s.pos ∧
      (replan s).table = s.table ∧ (replan s).pat = s.pat ∧ (replan s).fold = s.fold ∧
      (replan s).heat = s.heat ∧ (replan s).gov = s.gov ∧ (replan s).roll = s.roll ∧
      (replan s).react = s.react ∧ (replan s).mode = s.mode ∧ (replan s).fault = s.fault ∧
      (replan s).pending = s.pending := by
  unfold replan; simp

@[simp] theorem appendSeg_frame (kind : SegKind) (len : Nat) (s : State) :
    (appendSeg kind len s).ring = s.ring ∧ (appendSeg kind len s).sig = s.sig ∧
      (appendSeg kind len s).pos = s.pos ∧ (appendSeg kind len s).table = s.table ∧
      (appendSeg kind len s).pat = s.pat ∧ (appendSeg kind len s).fold = s.fold ∧
      (appendSeg kind len s).heat = s.heat ∧ (appendSeg kind len s).gov = s.gov ∧
      (appendSeg kind len s).roll = s.roll ∧ (appendSeg kind len s).react = s.react ∧
      (appendSeg kind len s).mode = s.mode ∧ (appendSeg kind len s).fault = s.fault ∧
      (appendSeg kind len s).pending = s.pending := by
  unfold appendSeg; simp

@[simp] theorem appendGapFor_frame (cls : Nat) (s : State) :
    (appendGapFor cls s).ring = s.ring ∧ (appendGapFor cls s).sig = s.sig ∧
      (appendGapFor cls s).pos = s.pos ∧ (appendGapFor cls s).table = s.table ∧
      (appendGapFor cls s).pat = s.pat ∧ (appendGapFor cls s).fold = s.fold ∧
      (appendGapFor cls s).heat = s.heat ∧ (appendGapFor cls s).gov = s.gov ∧
      (appendGapFor cls s).roll = s.roll ∧ (appendGapFor cls s).react = s.react ∧
      (appendGapFor cls s).mode = s.mode ∧ (appendGapFor cls s).fault = s.fault ∧
      (appendGapFor cls s).pending = s.pending := by
  unfold appendGapFor
  dsimp only
  (repeat' split) <;> simp

@[simp] theorem appendPanel_frame (id : PanelId) (s : State) :
    (appendPanel id s).ring = s.ring ∧ (appendPanel id s).sig = s.sig ∧ (appendPanel id s).pos = s.pos ∧
      (appendPanel id s).table = s.table ∧ (appendPanel id s).pat = s.pat ∧
      (appendPanel id s).fold = s.fold ∧ (appendPanel id s).heat = s.heat ∧ (appendPanel id s).gov = s.gov ∧
      (appendPanel id s).roll = s.roll ∧ (appendPanel id s).react = s.react ∧
      (appendPanel id s).mode = s.mode ∧ (appendPanel id s).fault = s.fault ∧
      (appendPanel id s).pending = s.pending := by
  unfold appendPanel; simp

@[simp] theorem planPanelOn_frame (id : PanelId) (s : State) :
    (planPanelOn id s).1.ring = s.ring ∧ (planPanelOn id s).1.sig = s.sig ∧
      (planPanelOn id s).1.pos = s.pos ∧ (planPanelOn id s).1.table = s.table ∧
      (planPanelOn id s).1.fold = s.fold ∧ (planPanelOn id s).1.gov = s.gov ∧
      (planPanelOn id s).1.roll = s.roll ∧ (planPanelOn id s).1.react = s.react ∧
      (planPanelOn id s).1.mode = s.mode ∧ (planPanelOn id s).1.fault = s.fault ∧
      (planPanelOn id s).1.pending = s.pending := by
  unfold planPanelOn
  dsimp only
  (repeat' split) <;> simp

@[simp] theorem reqPlanPanel_frame (args : List Word) (s : State) :
    (reqPlanPanel args s).1.ring = s.ring ∧ (reqPlanPanel args s).1.sig = s.sig ∧
      (reqPlanPanel args s).1.pos = s.pos ∧ (reqPlanPanel args s).1.table = s.table ∧
      (reqPlanPanel args s).1.fold = s.fold ∧ (reqPlanPanel args s).1.gov = s.gov ∧
      (reqPlanPanel args s).1.roll = s.roll ∧ (reqPlanPanel args s).1.react = s.react ∧
      (reqPlanPanel args s).1.mode = s.mode ∧ (reqPlanPanel args s).1.fault = s.fault ∧
      (reqPlanPanel args s).1.pending = s.pending := by
  unfold reqPlanPanel; repeat' split
  all_goals simp

@[simp] theorem cancelAt_frame (i : Nat) (id : PanelId) (s : State) :
    (cancelAt i id s).ring = s.ring ∧ (cancelAt i id s).sig = s.sig ∧ (cancelAt i id s).pos = s.pos ∧
      (cancelAt i id s).table = s.table ∧ (cancelAt i id s).fold = s.fold ∧ (cancelAt i id s).gov = s.gov ∧
      (cancelAt i id s).roll = s.roll ∧ (cancelAt i id s).react = s.react ∧
      (cancelAt i id s).mode = s.mode ∧ (cancelAt i id s).fault = s.fault ∧
      (cancelAt i id s).pending = s.pending := by
  unfold cancelAt; simp

@[simp] theorem reqCancelPanel_frame (args : List Word) (s : State) :
    (reqCancelPanel args s).1.ring = s.ring ∧ (reqCancelPanel args s).1.sig = s.sig ∧
      (reqCancelPanel args s).1.pos = s.pos ∧ (reqCancelPanel args s).1.table = s.table ∧
      (reqCancelPanel args s).1.fold = s.fold ∧ (reqCancelPanel args s).1.gov = s.gov ∧
      (reqCancelPanel args s).1.roll = s.roll ∧ (reqCancelPanel args s).1.react = s.react ∧
      (reqCancelPanel args s).1.mode = s.mode ∧ (reqCancelPanel args s).1.fault = s.fault ∧
      (reqCancelPanel args s).1.pending = s.pending := by
  unfold reqCancelPanel; repeat' split
  all_goals simp

@[simp] theorem trimLoop_frame (fuel : Nat) (s : State) :
    (trimLoop fuel s).ring = s.ring ∧ (trimLoop fuel s).sig = s.sig ∧ (trimLoop fuel s).pos = s.pos ∧
      (trimLoop fuel s).table = s.table ∧ (trimLoop fuel s).fold = s.fold ∧ (trimLoop fuel s).gov = s.gov ∧
      (trimLoop fuel s).roll = s.roll ∧ (trimLoop fuel s).mode = s.mode ∧
      (trimLoop fuel s).pending = s.pending := by
  induction fuel generalizing s with
  | zero => simp [trimLoop]
  | succ n ih => unfold trimLoop; (repeat' split) <;> simp [ih]

@[simp] theorem trimPlan_frame (s : State) :
    (trimPlan s).ring = s.ring ∧ (trimPlan s).sig = s.sig ∧ (trimPlan s).pos = s.pos ∧
      (trimPlan s).table = s.table ∧ (trimPlan s).fold = s.fold ∧ (trimPlan s).gov = s.gov ∧
      (trimPlan s).roll = s.roll ∧ (trimPlan s).mode = s.mode ∧ (trimPlan s).pending = s.pending := by
  unfold trimPlan; simp

@[simp] theorem placeWindow_frame (s : State) :
    (placeWindow s).2.ring = s.ring ∧ (placeWindow s).2.sig = s.sig ∧ (placeWindow s).2.pos = s.pos ∧
      (placeWindow s).2.table = s.table ∧ (placeWindow s).2.pat = s.pat ∧ (placeWindow s).2.fold = s.fold ∧
      (placeWindow s).2.heat = s.heat ∧ (placeWindow s).2.gov = s.gov ∧ (placeWindow s).2.roll = s.roll ∧
      (placeWindow s).2.react = s.react ∧ (placeWindow s).2.mode = s.mode ∧
      (placeWindow s).2.fault = s.fault ∧ (placeWindow s).2.pending = s.pending := by
  unfold placeWindow
  dsimp only
  (repeat' split) <;> simp

theorem reserveWindow_frame {s : State} {r : SegSerial × State} (h : reserveWindow s = some r) :
    r.2.ring = s.ring ∧ r.2.sig = s.sig ∧ r.2.pos = s.pos ∧ r.2.table = s.table ∧ r.2.pat = s.pat ∧
      r.2.fold = s.fold ∧ r.2.heat = s.heat ∧ r.2.gov = s.gov ∧ r.2.roll = s.roll ∧ r.2.react = s.react ∧
      r.2.mode = s.mode ∧ r.2.fault = s.fault ∧ r.2.pending = s.pending := by
  unfold reserveWindow at h
  dsimp only at h
  split at h
  · cases h
  · cases h; simp

@[simp] theorem commitWindow_frame (s : State) :
    (commitWindow s).ring = s.ring ∧ (commitWindow s).sig = s.sig ∧ (commitWindow s).pos = s.pos ∧
      (commitWindow s).table = s.table ∧ (commitWindow s).pat = s.pat ∧ (commitWindow s).fold = s.fold ∧
      (commitWindow s).heat = s.heat ∧ (commitWindow s).gov = s.gov ∧ (commitWindow s).roll = s.roll ∧
      (commitWindow s).react = s.react ∧ (commitWindow s).mode = s.mode ∧ (commitWindow s).fault = s.fault ∧
      (commitWindow s).pending = s.pending := by
  unfold commitWindow; simp

@[simp] theorem releaseWindow_frame (s : State) :
    (releaseWindow s).ring = s.ring ∧ (releaseWindow s).sig = s.sig ∧ (releaseWindow s).pos = s.pos ∧
      (releaseWindow s).table = s.table ∧ (releaseWindow s).pat = s.pat ∧ (releaseWindow s).fold = s.fold ∧
      (releaseWindow s).heat = s.heat ∧ (releaseWindow s).gov = s.gov ∧ (releaseWindow s).roll = s.roll ∧
      (releaseWindow s).react = s.react ∧ (releaseWindow s).mode = s.mode ∧
      (releaseWindow s).fault = s.fault ∧ (releaseWindow s).pending = s.pending := by
  unfold releaseWindow; simp

@[simp] theorem splicePanel_frame (g : BladeSeg) (id : PanelId) (s : State) :
    (splicePanel g id s).ring = s.ring ∧ (splicePanel g id s).sig = s.sig ∧
      (splicePanel g id s).pos = s.pos ∧ (splicePanel g id s).table = s.table ∧
      (splicePanel g id s).pat = s.pat ∧ (splicePanel g id s).fold = s.fold ∧
      (splicePanel g id s).heat = s.heat ∧ (splicePanel g id s).gov = s.gov ∧
      (splicePanel g id s).roll = s.roll ∧ (splicePanel g id s).mode = s.mode ∧
      (splicePanel g id s).pending = s.pending := by
  unfold splicePanel; simp

@[simp] theorem spliceWaste_frame (g : BladeSeg) (s : State) :
    (spliceWaste g s).ring = s.ring ∧ (spliceWaste g s).sig = s.sig ∧ (spliceWaste g s).pos = s.pos ∧
      (spliceWaste g s).table = s.table ∧ (spliceWaste g s).pat = s.pat ∧ (spliceWaste g s).heat = s.heat ∧
      (spliceWaste g s).gov = s.gov ∧ (spliceWaste g s).roll = s.roll ∧ (spliceWaste g s).react = s.react ∧
      (spliceWaste g s).mode = s.mode ∧ (spliceWaste g s).fault = s.fault ∧
      (spliceWaste g s).pending = s.pending := by
  unfold spliceWaste; simp

@[simp] theorem consumeWindow_frame (w : Seg) (p b : Nat) (s : State) :
    (consumeWindow w p b s).ring = s.ring ∧ (consumeWindow w p b s).sig = s.sig ∧
      (consumeWindow w p b s).pos = s.pos ∧ (consumeWindow w p b s).table = s.table ∧
      (consumeWindow w p b s).pat = s.pat ∧ (consumeWindow w p b s).fold = s.fold ∧
      (consumeWindow w p b s).heat = s.heat ∧ (consumeWindow w p b s).gov = s.gov ∧
      (consumeWindow w p b s).roll = s.roll ∧ (consumeWindow w p b s).react = s.react ∧
      (consumeWindow w p b s).mode = s.mode ∧ (consumeWindow w p b s).fault = s.fault ∧
      (consumeWindow w p b s).pending = s.pending := by
  unfold consumeWindow; simp

@[simp] theorem insertSplice_frame (p b : Nat) (s : State) :
    (insertSplice p b s).ring = s.ring ∧ (insertSplice p b s).sig = s.sig ∧
      (insertSplice p b s).pos = s.pos ∧ (insertSplice p b s).table = s.table ∧
      (insertSplice p b s).pat = s.pat ∧ (insertSplice p b s).fold = s.fold ∧
      (insertSplice p b s).heat = s.heat ∧ (insertSplice p b s).gov = s.gov ∧
      (insertSplice p b s).roll = s.roll ∧ (insertSplice p b s).react = s.react ∧
      (insertSplice p b s).mode = s.mode ∧ (insertSplice p b s).fault = s.fault ∧
      (insertSplice p b s).pending = s.pending := by
  unfold insertSplice; simp

@[simp] theorem splicePlan_frame (p b : Nat) (s : State) :
    (splicePlan p b s).ring = s.ring ∧ (splicePlan p b s).sig = s.sig ∧ (splicePlan p b s).pos = s.pos ∧
      (splicePlan p b s).table = s.table ∧ (splicePlan p b s).fold = s.fold ∧
      (splicePlan p b s).gov = s.gov ∧ (splicePlan p b s).roll = s.roll ∧ (splicePlan p b s).mode = s.mode ∧
      (splicePlan p b s).pending = s.pending := by
  unfold splicePlan; repeat' split
  all_goals simp

@[simp] theorem setDisposition_frame (serial : SegSerial) (d : Disposition) (s : State) :
    (setDisposition serial d s).ring = s.ring ∧ (setDisposition serial d s).sig = s.sig ∧
      (setDisposition serial d s).pos = s.pos ∧ (setDisposition serial d s).table = s.table ∧
      (setDisposition serial d s).pat = s.pat ∧ (setDisposition serial d s).fold = s.fold ∧
      (setDisposition serial d s).heat = s.heat ∧ (setDisposition serial d s).gov = s.gov ∧
      (setDisposition serial d s).roll = s.roll ∧ (setDisposition serial d s).react = s.react ∧
      (setDisposition serial d s).mode = s.mode ∧ (setDisposition serial d s).fault = s.fault ∧
      (setDisposition serial d s).pending = s.pending := by
  unfold setDisposition; simp

@[simp] theorem remakeOrder_frame (id : PanelId) (s : State) :
    (remakeOrder id s).2.ring = s.ring ∧ (remakeOrder id s).2.sig = s.sig ∧
      (remakeOrder id s).2.pos = s.pos ∧ (remakeOrder id s).2.table = s.table ∧
      (remakeOrder id s).2.pat = s.pat ∧ (remakeOrder id s).2.fold = s.fold ∧
      (remakeOrder id s).2.heat = s.heat ∧ (remakeOrder id s).2.gov = s.gov ∧
      (remakeOrder id s).2.roll = s.roll ∧ (remakeOrder id s).2.react = s.react ∧
      (remakeOrder id s).2.mode = s.mode ∧ (remakeOrder id s).2.fault = s.fault ∧
      (remakeOrder id s).2.pending = s.pending := by
  unfold remakeOrder; simp

@[simp] theorem decideRemake_frame (serial : SegSerial) (id : PanelId) (s : State) :
    (decideRemake serial id s).ring = s.ring ∧ (decideRemake serial id s).sig = s.sig ∧
      (decideRemake serial id s).pos = s.pos ∧ (decideRemake serial id s).table = s.table ∧
      (decideRemake serial id s).fold = s.fold ∧ (decideRemake serial id s).gov = s.gov ∧
      (decideRemake serial id s).roll = s.roll ∧ (decideRemake serial id s).mode = s.mode ∧
      (decideRemake serial id s).pending = s.pending := by
  unfold decideRemake
  dsimp only
  (repeat' split) <;> simp

@[simp] theorem spliceRecord_frame (a : Nat) (s : State) :
    (spliceRecord a s).ring = s.ring ∧ (spliceRecord a s).sig = s.sig ∧ (spliceRecord a s).pos = s.pos ∧
      (spliceRecord a s).table = s.table ∧ (spliceRecord a s).gov = s.gov ∧
      (spliceRecord a s).roll = s.roll ∧ (spliceRecord a s).mode = s.mode ∧
      (spliceRecord a s).pending = s.pending := by
  unfold spliceRecord
  dsimp only
  (repeat' split) <;> simp

@[simp] theorem takePanel_frame (g : Seg) (id : PanelId) (s : State) :
    (takePanel g id s).ring = s.ring ∧ (takePanel g id s).sig = s.sig ∧ (takePanel g id s).pos = s.pos ∧
      (takePanel g id s).table = s.table ∧ (takePanel g id s).pat = s.pat ∧
      (takePanel g id s).heat = s.heat ∧ (takePanel g id s).gov = s.gov ∧ (takePanel g id s).roll = s.roll ∧
      (takePanel g id s).mode = s.mode ∧ (takePanel g id s).fault = s.fault ∧
      (takePanel g id s).pending = s.pending := by
  unfold takePanel; simp

@[simp] theorem takeWaste_frame (g : Seg) (s : State) :
    (takeWaste g s).ring = s.ring ∧ (takeWaste g s).sig = s.sig ∧ (takeWaste g s).pos = s.pos ∧
      (takeWaste g s).table = s.table ∧ (takeWaste g s).pat = s.pat ∧ (takeWaste g s).heat = s.heat ∧
      (takeWaste g s).gov = s.gov ∧ (takeWaste g s).roll = s.roll ∧ (takeWaste g s).react = s.react ∧
      (takeWaste g s).mode = s.mode ∧ (takeWaste g s).fault = s.fault ∧
      (takeWaste g s).pending = s.pending := by
  unfold takeWaste; simp

@[simp] theorem takeSeg_frame (g : Seg) (s : State) :
    (takeSeg g s).ring = s.ring ∧ (takeSeg g s).sig = s.sig ∧ (takeSeg g s).pos = s.pos ∧
      (takeSeg g s).table = s.table ∧ (takeSeg g s).pat = s.pat ∧ (takeSeg g s).heat = s.heat ∧
      (takeSeg g s).gov = s.gov ∧ (takeSeg g s).roll = s.roll ∧ (takeSeg g s).mode = s.mode ∧
      (takeSeg g s).fault = s.fault ∧ (takeSeg g s).pending = s.pending := by
  unfold takeSeg; split <;> simp

@[simp] theorem cutRec_frame (r : SetRec) (older : List SetRec) (s : State) :
    (cutRec r older s).ring = s.ring ∧ (cutRec r older s).sig = s.sig ∧ (cutRec r older s).pos = s.pos ∧
      (cutRec r older s).table = s.table ∧ (cutRec r older s).fold = s.fold ∧
      (cutRec r older s).gov = s.gov ∧ (cutRec r older s).roll = s.roll ∧
      (cutRec r older s).react = s.react ∧ (cutRec r older s).mode = s.mode ∧
      (cutRec r older s).fault = s.fault ∧ (cutRec r older s).pending = s.pending := by
  unfold cutRec; split <;> simp

@[simp] theorem cutTest_frame (s : State) :
    (cutTest s).ring = s.ring ∧ (cutTest s).sig = s.sig ∧ (cutTest s).pos = s.pos ∧
      (cutTest s).table = s.table ∧ (cutTest s).fold = s.fold ∧ (cutTest s).gov = s.gov ∧
      (cutTest s).roll = s.roll ∧ (cutTest s).react = s.react ∧ (cutTest s).mode = s.mode ∧
      (cutTest s).fault = s.fault ∧ (cutTest s).pending = s.pending := by
  unfold cutTest; repeat' split
  all_goals simp

@[simp] theorem judgeOverdwell_frame (s : State) :
    (judgeOverdwell s).ring = s.ring ∧ (judgeOverdwell s).sig = s.sig ∧ (judgeOverdwell s).pos = s.pos ∧
      (judgeOverdwell s).table = s.table ∧ (judgeOverdwell s).pat = s.pat ∧
      (judgeOverdwell s).fold = s.fold ∧ (judgeOverdwell s).plan = s.plan ∧
      (judgeOverdwell s).heat = s.heat ∧ (judgeOverdwell s).gov = s.gov ∧ (judgeOverdwell s).roll = s.roll ∧
      (judgeOverdwell s).mode = s.mode ∧ (judgeOverdwell s).fault = s.fault ∧
      (judgeOverdwell s).pending = s.pending := by
  unfold judgeOverdwell; simp

@[simp] theorem ageCells_frame (e : Nat) (s : State) :
    (ageCells e s).ring = s.ring ∧ (ageCells e s).sig = s.sig ∧ (ageCells e s).pos = s.pos ∧
      (ageCells e s).table = s.table ∧ (ageCells e s).pat = s.pat ∧ (ageCells e s).fold = s.fold ∧
      (ageCells e s).plan = s.plan ∧ (ageCells e s).gov = s.gov ∧ (ageCells e s).roll = s.roll ∧
      (ageCells e s).mode = s.mode ∧ (ageCells e s).fault = s.fault ∧
      (ageCells e s).pending = s.pending := by
  unfold ageCells; simp

@[simp] theorem markHeat_frame (serial : SegSerial) (order : Nat) (r : Reject) (detail : Nat) (s : State) :
    (markHeat serial order r detail s).ring = s.ring ∧ (markHeat serial order r detail s).sig = s.sig ∧
      (markHeat serial order r detail s).pos = s.pos ∧ (markHeat serial order r detail s).table = s.table ∧
      (markHeat serial order r detail s).pat = s.pat ∧ (markHeat serial order r detail s).fold = s.fold ∧
      (markHeat serial order r detail s).heat = s.heat ∧ (markHeat serial order r detail s).gov = s.gov ∧
      (markHeat serial order r detail s).roll = s.roll ∧ (markHeat serial order r detail s).mode = s.mode ∧
      (markHeat serial order r detail s).pending = s.pending := by
  unfold markHeat; split <;> simp

@[simp] theorem judgeExit_frame (o : SegSerial) (id : PanelId) (c : Cell) (s : State) :
    (judgeExit o id c s).ring = s.ring ∧ (judgeExit o id c s).sig = s.sig ∧
      (judgeExit o id c s).pos = s.pos ∧ (judgeExit o id c s).table = s.table ∧
      (judgeExit o id c s).pat = s.pat ∧ (judgeExit o id c s).fold = s.fold ∧
      (judgeExit o id c s).heat = s.heat ∧ (judgeExit o id c s).gov = s.gov ∧
      (judgeExit o id c s).roll = s.roll ∧ (judgeExit o id c s).mode = s.mode ∧
      (judgeExit o id c s).pending = s.pending := by
  unfold judgeExit
  dsimp only
  (repeat' split) <;> simp

@[simp] theorem exitCell_frame (c : Cell) (s : State) :
    (exitCell c s).ring = s.ring ∧ (exitCell c s).sig = s.sig ∧ (exitCell c s).pos = s.pos ∧
      (exitCell c s).table = s.table ∧ (exitCell c s).pat = s.pat ∧ (exitCell c s).fold = s.fold ∧
      (exitCell c s).heat = s.heat ∧ (exitCell c s).gov = s.gov ∧ (exitCell c s).roll = s.roll ∧
      (exitCell c s).mode = s.mode ∧ (exitCell c s).pending = s.pending := by
  unfold exitCell; repeat' split
  all_goals simp

@[simp] theorem shiftOnce_frame (fall : Int) (s : State) :
    (shiftOnce fall s).ring = s.ring ∧ (shiftOnce fall s).sig = s.sig ∧ (shiftOnce fall s).pos = s.pos ∧
      (shiftOnce fall s).table = s.table ∧ (shiftOnce fall s).pat = s.pat ∧
      (shiftOnce fall s).fold = s.fold ∧ (shiftOnce fall s).gov = s.gov ∧ (shiftOnce fall s).roll = s.roll ∧
      (shiftOnce fall s).mode = s.mode ∧ (shiftOnce fall s).pending = s.pending := by
  unfold shiftOnce
  dsimp only
  (repeat' split) <;> simp

@[simp] theorem heatAdvance_frame (before adv : Nat) (s : State) :
    (heatAdvance before adv s).ring = s.ring ∧ (heatAdvance before adv s).sig = s.sig ∧
      (heatAdvance before adv s).pos = s.pos ∧ (heatAdvance before adv s).table = s.table ∧
      (heatAdvance before adv s).pat = s.pat ∧ (heatAdvance before adv s).fold = s.fold ∧
      (heatAdvance before adv s).gov = s.gov ∧ (heatAdvance before adv s).roll = s.roll ∧
      (heatAdvance before adv s).mode = s.mode ∧ (heatAdvance before adv s).pending = s.pending := by
  unfold heatAdvance
  dsimp only
  split
  · simp
  · exact ⟨(foldl_keeps _ (·.ring) (by simp) _ _).trans (by simp),
    (foldl_keeps _ (·.sig) (by simp) _ _).trans (by simp),
    (foldl_keeps _ (·.pos) (by simp) _ _).trans (by simp),
    (foldl_keeps _ (·.table) (by simp) _ _).trans (by simp),
    (foldl_keeps _ (·.pat) (by simp) _ _).trans (by simp),
    (foldl_keeps _ (·.fold) (by simp) _ _).trans (by simp),
    (foldl_keeps _ (·.gov) (by simp) _ _).trans (by simp),
    (foldl_keeps _ (·.roll) (by simp) _ _).trans (by simp),
    (foldl_keeps _ (·.mode) (by simp) _ _).trans (by simp),
    (foldl_keeps _ (·.pending) (by simp) _ _).trans (by simp)⟩

@[simp] theorem judgeZoneOver_frame (s : State) :
    (judgeZoneOver s).ring = s.ring ∧ (judgeZoneOver s).sig = s.sig ∧ (judgeZoneOver s).pos = s.pos ∧
      (judgeZoneOver s).table = s.table ∧ (judgeZoneOver s).pat = s.pat ∧ (judgeZoneOver s).fold = s.fold ∧
      (judgeZoneOver s).plan = s.plan ∧ (judgeZoneOver s).heat = s.heat ∧ (judgeZoneOver s).gov = s.gov ∧
      (judgeZoneOver s).roll = s.roll ∧ (judgeZoneOver s).mode = s.mode ∧
      (judgeZoneOver s).pending = s.pending := by
  unfold judgeZoneOver; split <;> simp

@[simp] theorem takeZone_frame (z v : Nat) (s : State) :
    (takeZone z v s).ring = s.ring ∧ (takeZone z v s).sig = s.sig ∧ (takeZone z v s).pos = s.pos ∧
      (takeZone z v s).table = s.table ∧ (takeZone z v s).pat = s.pat ∧ (takeZone z v s).fold = s.fold ∧
      (takeZone z v s).plan = s.plan ∧ (takeZone z v s).gov = s.gov ∧ (takeZone z v s).roll = s.roll ∧
      (takeZone z v s).react = s.react ∧ (takeZone z v s).mode = s.mode ∧
      (takeZone z v s).fault = s.fault ∧ (takeZone z v s).pending = s.pending := by
  unfold takeZone; split <;> simp

@[simp] theorem judgePressureValves_frame (s : State) :
    (judgePressureValves s).ring = s.ring ∧ (judgePressureValves s).sig = s.sig ∧
      (judgePressureValves s).pos = s.pos ∧ (judgePressureValves s).table = s.table ∧
      (judgePressureValves s).pat = s.pat ∧ (judgePressureValves s).fold = s.fold ∧
      (judgePressureValves s).plan = s.plan ∧ (judgePressureValves s).heat = s.heat ∧
      (judgePressureValves s).gov = s.gov ∧ (judgePressureValves s).roll = s.roll ∧
      (judgePressureValves s).mode = s.mode ∧ (judgePressureValves s).fault = s.fault ∧
      (judgePressureValves s).pending = s.pending := by
  unfold judgePressureValves; split <;> simp

@[simp] theorem takePress_frame (v : Nat) (s : State) :
    (takePress v s).ring = s.ring ∧ (takePress v s).sig = s.sig ∧ (takePress v s).pos = s.pos ∧
      (takePress v s).table = s.table ∧ (takePress v s).pat = s.pat ∧ (takePress v s).fold = s.fold ∧
      (takePress v s).plan = s.plan ∧ (takePress v s).gov = s.gov ∧ (takePress v s).roll = s.roll ∧
      (takePress v s).react = s.react ∧ (takePress v s).mode = s.mode ∧
      (takePress v s).fault = s.fault ∧ (takePress v s).pending = s.pending := by
  unfold takePress; simp

@[simp] theorem judgePress_frame (v : Nat) (s : State) :
    (judgePress v s).ring = s.ring ∧ (judgePress v s).sig = s.sig ∧ (judgePress v s).pos = s.pos ∧
      (judgePress v s).table = s.table ∧ (judgePress v s).pat = s.pat ∧ (judgePress v s).fold = s.fold ∧
      (judgePress v s).plan = s.plan ∧ (judgePress v s).heat = s.heat ∧ (judgePress v s).gov = s.gov ∧
      (judgePress v s).roll = s.roll ∧ (judgePress v s).mode = s.mode ∧
      (judgePress v s).pending = s.pending := by
  unfold judgePress; simp

@[simp] theorem heatJudges_frame (press : Option Nat) (old s : State) :
    (heatJudges press old s).ring = s.ring ∧ (heatJudges press old s).sig = s.sig ∧
      (heatJudges press old s).pos = s.pos ∧ (heatJudges press old s).table = s.table ∧
      (heatJudges press old s).pat = s.pat ∧ (heatJudges press old s).fold = s.fold ∧
      (heatJudges press old s).plan = s.plan ∧ (heatJudges press old s).heat = s.heat ∧
      (heatJudges press old s).gov = s.gov ∧ (heatJudges press old s).roll = s.roll ∧
      (heatJudges press old s).mode = s.mode ∧ (heatJudges press old s).pending = s.pending := by
  unfold heatJudges; dsimp only; (repeat' split) <;> simp

@[simp] theorem countStandby_frame (e : Nat) (s : State) :
    (countStandby e s).ring = s.ring ∧ (countStandby e s).sig = s.sig ∧ (countStandby e s).pos = s.pos ∧
      (countStandby e s).table = s.table ∧ (countStandby e s).pat = s.pat ∧
      (countStandby e s).fold = s.fold ∧ (countStandby e s).plan = s.plan ∧ (countStandby e s).gov = s.gov ∧
      (countStandby e s).roll = s.roll ∧ (countStandby e s).react = s.react ∧
      (countStandby e s).mode = s.mode ∧ (countStandby e s).fault = s.fault ∧
      (countStandby e s).pending = s.pending := by
  unfold countStandby; split <;> simp

@[simp] theorem countWarm_frame (e : Nat) (s : State) :
    (countWarm e s).ring = s.ring ∧ (countWarm e s).sig = s.sig ∧ (countWarm e s).pos = s.pos ∧
      (countWarm e s).table = s.table ∧ (countWarm e s).pat = s.pat ∧ (countWarm e s).fold = s.fold ∧
      (countWarm e s).plan = s.plan ∧ (countWarm e s).gov = s.gov ∧ (countWarm e s).roll = s.roll ∧
      (countWarm e s).react = s.react ∧ (countWarm e s).mode = s.mode ∧ (countWarm e s).fault = s.fault ∧
      (countWarm e s).pending = s.pending := by
  unfold countWarm; simp

@[simp] theorem modClass_frame (n : Nat) (f : FabricClass → FabricClass) (s : State) :
    (modClass n f s).ring = s.ring ∧ (modClass n f s).sig = s.sig ∧ (modClass n f s).pos = s.pos ∧
      (modClass n f s).table = s.table ∧ (modClass n f s).pat = s.pat ∧ (modClass n f s).fold = s.fold ∧
      (modClass n f s).plan = s.plan ∧ (modClass n f s).gov = s.gov ∧ (modClass n f s).roll = s.roll ∧
      (modClass n f s).react = s.react ∧ (modClass n f s).mode = s.mode ∧ (modClass n f s).fault = s.fault ∧
      (modClass n f s).pending = s.pending := by
  unfold modClass; simp

@[simp] theorem reqWriteClass_frame (args : List Word) (s : State) :
    (reqWriteClass args s).1.ring = s.ring ∧ (reqWriteClass args s).1.sig = s.sig ∧
      (reqWriteClass args s).1.pos = s.pos ∧ (reqWriteClass args s).1.table = s.table ∧
      (reqWriteClass args s).1.pat = s.pat ∧ (reqWriteClass args s).1.fold = s.fold ∧
      (reqWriteClass args s).1.plan = s.plan ∧ (reqWriteClass args s).1.gov = s.gov ∧
      (reqWriteClass args s).1.roll = s.roll ∧ (reqWriteClass args s).1.react = s.react ∧
      (reqWriteClass args s).1.mode = s.mode ∧ (reqWriteClass args s).1.fault = s.fault ∧
      (reqWriteClass args s).1.pending = s.pending := by
  unfold reqWriteClass; repeat' split
  all_goals simp

@[simp] theorem reqReadClass_frame (args : List Word) (s : State) :
    (reqReadClass args s).1.ring = s.ring ∧ (reqReadClass args s).1.sig = s.sig ∧
      (reqReadClass args s).1.pos = s.pos ∧ (reqReadClass args s).1.table = s.table ∧
      (reqReadClass args s).1.pat = s.pat ∧ (reqReadClass args s).1.fold = s.fold ∧
      (reqReadClass args s).1.plan = s.plan ∧ (reqReadClass args s).1.heat = s.heat ∧
      (reqReadClass args s).1.gov = s.gov ∧ (reqReadClass args s).1.roll = s.roll ∧
      (reqReadClass args s).1.react = s.react ∧ (reqReadClass args s).1.mode = s.mode ∧
      (reqReadClass args s).1.fault = s.fault ∧ (reqReadClass args s).1.pending = s.pending := by
  unfold reqReadClass; repeat' split
  all_goals simp

@[simp] theorem buildCells_frame (s : State) :
    (buildCells s).ring = s.ring ∧ (buildCells s).sig = s.sig ∧ (buildCells s).pos = s.pos ∧
      (buildCells s).table = s.table ∧ (buildCells s).pat = s.pat ∧ (buildCells s).fold = s.fold ∧
      (buildCells s).plan = s.plan ∧ (buildCells s).gov = s.gov ∧ (buildCells s).roll = s.roll ∧
      (buildCells s).react = s.react ∧ (buildCells s).mode = s.mode ∧ (buildCells s).fault = s.fault ∧
      (buildCells s).pending = s.pending := by
  unfold buildCells; simp

@[simp] theorem endRole_frame (x : Stand) (s : State) :
    (endRole x s).ring = s.ring ∧ (endRole x s).sig = s.sig ∧ (endRole x s).pos = s.pos ∧
      (endRole x s).table = s.table ∧ (endRole x s).pat = s.pat ∧ (endRole x s).fold = s.fold ∧
      (endRole x s).plan = s.plan ∧ (endRole x s).heat = s.heat ∧ (endRole x s).gov = s.gov ∧
      (endRole x s).react = s.react ∧ (endRole x s).mode = s.mode ∧ (endRole x s).fault = s.fault ∧
      (endRole x s).pending = s.pending := by
  unfold endRole; simp

@[simp] theorem rederive_frame (x : Stand) (s : State) :
    (rederive x s).ring = s.ring ∧ (rederive x s).sig = s.sig ∧ (rederive x s).pos = s.pos ∧
      (rederive x s).table = s.table ∧ (rederive x s).pat = s.pat ∧ (rederive x s).fold = s.fold ∧
      (rederive x s).plan = s.plan ∧ (rederive x s).heat = s.heat ∧ (rederive x s).gov = s.gov ∧
      (rederive x s).react = s.react ∧ (rederive x s).mode = s.mode ∧ (rederive x s).fault = s.fault ∧
      (rederive x s).pending = s.pending := by
  unfold rederive; split <;> simp

@[simp] theorem judgeWebEnd_frame (s : State) :
    (judgeWebEnd s).ring = s.ring ∧ (judgeWebEnd s).sig = s.sig ∧ (judgeWebEnd s).pos = s.pos ∧
      (judgeWebEnd s).table = s.table ∧ (judgeWebEnd s).pat = s.pat ∧ (judgeWebEnd s).fold = s.fold ∧
      (judgeWebEnd s).plan = s.plan ∧ (judgeWebEnd s).heat = s.heat ∧ (judgeWebEnd s).gov = s.gov ∧
      (judgeWebEnd s).roll = s.roll ∧ (judgeWebEnd s).mode = s.mode ∧
      (judgeWebEnd s).pending = s.pending := by
  unfold judgeWebEnd; split <;> simp

@[simp] theorem startStop_frame (steps : Nat) (x : Stand) (s : State) :
    (startStop steps x s).ring = s.ring ∧ (startStop steps x s).sig = s.sig ∧
      (startStop steps x s).pos = s.pos ∧ (startStop steps x s).table = s.table ∧
      (startStop steps x s).pat = s.pat ∧ (startStop steps x s).fold = s.fold ∧
      (startStop steps x s).plan = s.plan ∧ (startStop steps x s).heat = s.heat ∧
      (startStop steps x s).gov = s.gov ∧ (startStop steps x s).react = s.react ∧
      (startStop steps x s).mode = s.mode ∧ (startStop steps x s).fault = s.fault ∧
      (startStop steps x s).pending = s.pending := by
  unfold startStop; simp

@[simp] theorem deactivateIncoming_frame (s : State) :
    (deactivateIncoming s).ring = s.ring ∧ (deactivateIncoming s).sig = s.sig ∧
      (deactivateIncoming s).pos = s.pos ∧ (deactivateIncoming s).table = s.table ∧
      (deactivateIncoming s).pat = s.pat ∧ (deactivateIncoming s).fold = s.fold ∧
      (deactivateIncoming s).plan = s.plan ∧ (deactivateIncoming s).heat = s.heat ∧
      (deactivateIncoming s).gov = s.gov ∧ (deactivateIncoming s).react = s.react ∧
      (deactivateIncoming s).mode = s.mode ∧ (deactivateIncoming s).fault = s.fault ∧
      (deactivateIncoming s).pending = s.pending := by
  unfold deactivateIncoming; split <;> simp

@[simp] theorem stopStep_frame (x : Stand) (s : State) :
    (stopStep x s).ring = s.ring ∧ (stopStep x s).sig = s.sig ∧ (stopStep x s).pos = s.pos ∧
      (stopStep x s).table = s.table ∧ (stopStep x s).pat = s.pat ∧ (stopStep x s).fold = s.fold ∧
      (stopStep x s).plan = s.plan ∧ (stopStep x s).heat = s.heat ∧ (stopStep x s).gov = s.gov ∧
      (stopStep x s).react = s.react ∧ (stopStep x s).mode = s.mode ∧ (stopStep x s).fault = s.fault ∧
      (stopStep x s).pending = s.pending := by
  unfold stopStep
  dsimp only
  (repeat' split) <;> simp

@[simp] theorem requestWindow_frame (s : State) :
    (requestWindow s).ring = s.ring ∧ (requestWindow s).sig = s.sig ∧ (requestWindow s).pos = s.pos ∧
      (requestWindow s).table = s.table ∧ (requestWindow s).pat = s.pat ∧ (requestWindow s).fold = s.fold ∧
      (requestWindow s).heat = s.heat ∧ (requestWindow s).gov = s.gov ∧ (requestWindow s).react = s.react ∧
      (requestWindow s).mode = s.mode ∧ (requestWindow s).fault = s.fault ∧
      (requestWindow s).pending = s.pending := by
  unfold requestWindow
  split
  · rename_i h
    have k := reserveWindow_frame h
    simp_all
  · simp

@[simp] theorem dropWindow_frame (s : State) :
    (dropWindow s).ring = s.ring ∧ (dropWindow s).sig = s.sig ∧ (dropWindow s).pos = s.pos ∧
      (dropWindow s).table = s.table ∧ (dropWindow s).pat = s.pat ∧ (dropWindow s).fold = s.fold ∧
      (dropWindow s).heat = s.heat ∧ (dropWindow s).gov = s.gov ∧ (dropWindow s).react = s.react ∧
      (dropWindow s).mode = s.mode ∧ (dropWindow s).fault = s.fault ∧
      (dropWindow s).pending = s.pending := by
  unfold dropWindow; split <;> simp

@[simp] theorem setSeq_frame (st : SeqState) (s : State) :
    (setSeq st s).ring = s.ring ∧ (setSeq st s).sig = s.sig ∧ (setSeq st s).pos = s.pos ∧
      (setSeq st s).table = s.table ∧ (setSeq st s).pat = s.pat ∧ (setSeq st s).fold = s.fold ∧
      (setSeq st s).plan = s.plan ∧ (setSeq st s).heat = s.heat ∧ (setSeq st s).gov = s.gov ∧
      (setSeq st s).react = s.react ∧ (setSeq st s).mode = s.mode ∧ (setSeq st s).fault = s.fault ∧
      (setSeq st s).pending = s.pending := by
  unfold setSeq; simp

@[simp] theorem rollHold_frame (s : State) :
    (rollHold s).ring = s.ring ∧ (rollHold s).sig = s.sig ∧ (rollHold s).pos = s.pos ∧
      (rollHold s).table = s.table ∧ (rollHold s).pat = s.pat ∧ (rollHold s).fold = s.fold ∧
      (rollHold s).heat = s.heat ∧ (rollHold s).gov = s.gov ∧ (rollHold s).react = s.react ∧
      (rollHold s).mode = s.mode ∧ (rollHold s).fault = s.fault ∧ (rollHold s).pending = s.pending := by
  unfold rollHold; split <;> simp

@[simp] theorem rollHalting_frame (s : State) :
    (rollHalting s).ring = s.ring ∧ (rollHalting s).sig = s.sig ∧ (rollHalting s).pos = s.pos ∧
      (rollHalting s).table = s.table ∧ (rollHalting s).pat = s.pat ∧ (rollHalting s).fold = s.fold ∧
      (rollHalting s).heat = s.heat ∧ (rollHalting s).gov = s.gov ∧ (rollHalting s).react = s.react ∧
      (rollHalting s).mode = s.mode ∧ (rollHalting s).fault = s.fault ∧
      (rollHalting s).pending = s.pending := by
  unfold rollHalting; split <;> simp

@[simp] theorem windowPassed_frame (s : State) :
    (windowPassed s).ring = s.ring ∧ (windowPassed s).sig = s.sig ∧ (windowPassed s).pos = s.pos ∧
      (windowPassed s).table = s.table ∧ (windowPassed s).pat = s.pat ∧ (windowPassed s).fold = s.fold ∧
      (windowPassed s).heat = s.heat ∧ (windowPassed s).gov = s.gov ∧ (windowPassed s).react = s.react ∧
      (windowPassed s).mode = s.mode ∧ (windowPassed s).fault = s.fault ∧
      (windowPassed s).pending = s.pending := by
  unfold windowPassed; split <;> simp

@[simp] theorem spliceFailed_frame (s : State) :
    (spliceFailed s).ring = s.ring ∧ (spliceFailed s).sig = s.sig ∧ (spliceFailed s).pos = s.pos ∧
      (spliceFailed s).table = s.table ∧ (spliceFailed s).pat = s.pat ∧ (spliceFailed s).fold = s.fold ∧
      (spliceFailed s).plan = s.plan ∧ (spliceFailed s).heat = s.heat ∧ (spliceFailed s).gov = s.gov ∧
      (spliceFailed s).mode = s.mode ∧ (spliceFailed s).fault = s.fault ∧
      (spliceFailed s).pending = s.pending := by
  unfold spliceFailed; simp

@[simp] theorem removeIncoming_frame (x : Stand) (s : State) :
    (removeIncoming x s).ring = s.ring ∧ (removeIncoming x s).sig = s.sig ∧
      (removeIncoming x s).pos = s.pos ∧ (removeIncoming x s).table = s.table ∧
      (removeIncoming x s).pat = s.pat ∧ (removeIncoming x s).fold = s.fold ∧
      (removeIncoming x s).heat = s.heat ∧ (removeIncoming x s).gov = s.gov ∧
      (removeIncoming x s).mode = s.mode ∧ (removeIncoming x s).pending = s.pending := by
  unfold removeIncoming; repeat' split
  all_goals simp

@[simp] theorem rollTakenOff_frame (x : Stand) (s : State) :
    (rollTakenOff x s).ring = s.ring ∧ (rollTakenOff x s).sig = s.sig ∧ (rollTakenOff x s).pos = s.pos ∧
      (rollTakenOff x s).table = s.table ∧ (rollTakenOff x s).pat = s.pat ∧
      (rollTakenOff x s).fold = s.fold ∧ (rollTakenOff x s).plan = s.plan ∧
      (rollTakenOff x s).heat = s.heat ∧ (rollTakenOff x s).gov = s.gov ∧
      (rollTakenOff x s).react = s.react ∧ (rollTakenOff x s).mode = s.mode ∧
      (rollTakenOff x s).fault = s.fault ∧ (rollTakenOff x s).pending = s.pending := by
  unfold rollTakenOff; split <;> simp

@[simp] theorem takeDiam_frame (x : Stand) (d : Nat) (s : State) :
    (takeDiam x d s).ring = s.ring ∧ (takeDiam x d s).sig = s.sig ∧ (takeDiam x d s).pos = s.pos ∧
      (takeDiam x d s).table = s.table ∧ (takeDiam x d s).pat = s.pat ∧ (takeDiam x d s).fold = s.fold ∧
      (takeDiam x d s).plan = s.plan ∧ (takeDiam x d s).heat = s.heat ∧ (takeDiam x d s).gov = s.gov ∧
      (takeDiam x d s).react = s.react ∧ (takeDiam x d s).mode = s.mode ∧
      (takeDiam x d s).fault = s.fault ∧ (takeDiam x d s).pending = s.pending := by
  unfold takeDiam; split <;> simp

@[simp] theorem takeSpeed_frame (x : Stand) (v : Nat) (s : State) :
    (takeSpeed x v s).ring = s.ring ∧ (takeSpeed x v s).sig = s.sig ∧ (takeSpeed x v s).pos = s.pos ∧
      (takeSpeed x v s).table = s.table ∧ (takeSpeed x v s).pat = s.pat ∧ (takeSpeed x v s).fold = s.fold ∧
      (takeSpeed x v s).plan = s.plan ∧ (takeSpeed x v s).heat = s.heat ∧ (takeSpeed x v s).gov = s.gov ∧
      (takeSpeed x v s).react = s.react ∧ (takeSpeed x v s).mode = s.mode ∧
      (takeSpeed x v s).fault = s.fault ∧ (takeSpeed x v s).pending = s.pending := by
  unfold takeSpeed; simp

@[simp] theorem judgeTakenOff_frame (x : Stand) (fresh : Option Nat) (s : State) :
    (judgeTakenOff x fresh s).ring = s.ring ∧ (judgeTakenOff x fresh s).sig = s.sig ∧
      (judgeTakenOff x fresh s).pos = s.pos ∧ (judgeTakenOff x fresh s).table = s.table ∧
      (judgeTakenOff x fresh s).pat = s.pat ∧ (judgeTakenOff x fresh s).fold = s.fold ∧
      (judgeTakenOff x fresh s).plan = s.plan ∧ (judgeTakenOff x fresh s).heat = s.heat ∧
      (judgeTakenOff x fresh s).gov = s.gov ∧ (judgeTakenOff x fresh s).react = s.react ∧
      (judgeTakenOff x fresh s).mode = s.mode ∧ (judgeTakenOff x fresh s).fault = s.fault ∧
      (judgeTakenOff x fresh s).pending = s.pending := by
  unfold judgeTakenOff; split <;> simp

@[simp] theorem judgeRemoval_frame (old : State) (x : Stand) (s : State) :
    (judgeRemoval old x s).ring = s.ring ∧ (judgeRemoval old x s).sig = s.sig ∧
      (judgeRemoval old x s).pos = s.pos ∧ (judgeRemoval old x s).table = s.table ∧
      (judgeRemoval old x s).pat = s.pat ∧ (judgeRemoval old x s).fold = s.fold ∧
      (judgeRemoval old x s).heat = s.heat ∧ (judgeRemoval old x s).gov = s.gov ∧
      (judgeRemoval old x s).mode = s.mode ∧ (judgeRemoval old x s).pending = s.pending := by
  unfold judgeRemoval; split <;> simp

@[simp] theorem judgeRole_frame (old : State) (x : Stand) (s : State) :
    (judgeRole old x s).ring = s.ring ∧ (judgeRole old x s).sig = s.sig ∧ (judgeRole old x s).pos = s.pos ∧
      (judgeRole old x s).table = s.table ∧ (judgeRole old x s).pat = s.pat ∧
      (judgeRole old x s).fold = s.fold ∧ (judgeRole old x s).plan = s.plan ∧
      (judgeRole old x s).heat = s.heat ∧ (judgeRole old x s).gov = s.gov ∧
      (judgeRole old x s).react = s.react ∧ (judgeRole old x s).mode = s.mode ∧
      (judgeRole old x s).fault = s.fault ∧ (judgeRole old x s).pending = s.pending := by
  unfold judgeRole; split <;> simp

@[simp] theorem judgeWebEndAfter_frame (old s : State) :
    (judgeWebEndAfter old s).ring = s.ring ∧ (judgeWebEndAfter old s).sig = s.sig ∧
      (judgeWebEndAfter old s).pos = s.pos ∧ (judgeWebEndAfter old s).table = s.table ∧
      (judgeWebEndAfter old s).pat = s.pat ∧ (judgeWebEndAfter old s).fold = s.fold ∧
      (judgeWebEndAfter old s).plan = s.plan ∧ (judgeWebEndAfter old s).heat = s.heat ∧
      (judgeWebEndAfter old s).gov = s.gov ∧ (judgeWebEndAfter old s).roll = s.roll ∧
      (judgeWebEndAfter old s).mode = s.mode ∧ (judgeWebEndAfter old s).pending = s.pending := by
  unfold judgeWebEndAfter; split <;> simp

@[simp] theorem standsJudge_frame (a b : Option Nat) (old s : State) :
    (standsJudge a b old s).ring = s.ring ∧ (standsJudge a b old s).sig = s.sig ∧
      (standsJudge a b old s).pos = s.pos ∧ (standsJudge a b old s).table = s.table ∧
      (standsJudge a b old s).pat = s.pat ∧ (standsJudge a b old s).fold = s.fold ∧
      (standsJudge a b old s).heat = s.heat ∧ (standsJudge a b old s).gov = s.gov ∧
      (standsJudge a b old s).mode = s.mode ∧ (standsJudge a b old s).pending = s.pending := by
  unfold standsJudge; simp

@[simp] theorem floatPanel_frame (g : Seg) (s : State) :
    (floatPanel g s).ring = s.ring ∧ (floatPanel g s).sig = s.sig ∧ (floatPanel g s).pos = s.pos ∧
      (floatPanel g s).table = s.table ∧ (floatPanel g s).gov = s.gov ∧ (floatPanel g s).roll = s.roll ∧
      (floatPanel g s).mode = s.mode ∧ (floatPanel g s).pending = s.pending := by
  unfold floatPanel; simp

@[simp] theorem takeIdleGap_frame (s : State) :
    (takeIdleGap s).ring = s.ring ∧ (takeIdleGap s).sig = s.sig ∧ (takeIdleGap s).pos = s.pos ∧
      (takeIdleGap s).table = s.table ∧ (takeIdleGap s).pat = s.pat ∧ (takeIdleGap s).heat = s.heat ∧
      (takeIdleGap s).gov = s.gov ∧ (takeIdleGap s).roll = s.roll ∧ (takeIdleGap s).mode = s.mode ∧
      (takeIdleGap s).fault = s.fault ∧ (takeIdleGap s).pending = s.pending := by
  unfold takeIdleGap; split <;> simp

theorem handStep_frame {s t : State} (h : handStep s = some t) :
    t.ring = s.ring ∧ t.sig = s.sig ∧ t.pos = s.pos ∧ t.table = s.table ∧ t.gov = s.gov ∧ t.roll = s.roll ∧
      t.mode = s.mode ∧ t.pending = s.pending := by
  unfold handStep at h
  (repeat' split at h) <;> first | (cases h; simp) | (cases h) 

@[simp] theorem handLoop_frame (fuel : Nat) (s : State) :
    (handLoop fuel s).ring = s.ring ∧ (handLoop fuel s).sig = s.sig ∧ (handLoop fuel s).pos = s.pos ∧
      (handLoop fuel s).table = s.table ∧ (handLoop fuel s).gov = s.gov ∧ (handLoop fuel s).roll = s.roll ∧
      (handLoop fuel s).mode = s.mode ∧ (handLoop fuel s).pending = s.pending := by
  induction fuel generalizing s with
  | zero => simp [handLoop]
  | succ n ih =>
    unfold handLoop
    split
    · rename_i t h
      have k := handStep_frame h
      have i := ih t
      simp_all
    · simp

@[simp] theorem handOver_frame (s : State) :
    (handOver s).ring = s.ring ∧ (handOver s).sig = s.sig ∧ (handOver s).pos = s.pos ∧
      (handOver s).table = s.table ∧ (handOver s).gov = s.gov ∧ (handOver s).mode = s.mode ∧
      (handOver s).pending = s.pending := by
  unfold handOver; split <;> simp

@[simp] theorem leaveMode_frame (s : State) :
    (leaveMode s).ring = s.ring ∧ (leaveMode s).sig = s.sig ∧ (leaveMode s).pos = s.pos ∧
      (leaveMode s).table = s.table ∧ (leaveMode s).pat = s.pat ∧ (leaveMode s).fold = s.fold ∧
      (leaveMode s).plan = s.plan ∧ (leaveMode s).gov = s.gov ∧ (leaveMode s).roll = s.roll ∧
      (leaveMode s).mode = s.mode ∧ (leaveMode s).fault = s.fault ∧ (leaveMode s).pending = s.pending := by
  unfold leaveMode; split <;> simp

@[simp] theorem enterHalting_frame (cause : HaltCause) (s : State) :
    (enterHalting cause s).ring = s.ring ∧ (enterHalting cause s).sig = s.sig ∧
      (enterHalting cause s).pos = s.pos ∧ (enterHalting cause s).table = s.table ∧
      (enterHalting cause s).pending = s.pending := by
  unfold enterHalting; repeat' split
  all_goals simp

@[simp] theorem enterHold_frame (s : State) :
    (enterHold s).ring = s.ring ∧ (enterHold s).sig = s.sig ∧ (enterHold s).pos = s.pos ∧
      (enterHold s).table = s.table ∧ (enterHold s).pat = s.pat ∧ (enterHold s).fold = s.fold ∧
      (enterHold s).gov = s.gov ∧ (enterHold s).fault = s.fault ∧ (enterHold s).pending = s.pending := by
  unfold enterHold; simp

@[simp] theorem enterRun_frame (s : State) :
    (enterRun s).ring = s.ring ∧ (enterRun s).sig = s.sig ∧ (enterRun s).pos = s.pos ∧
      (enterRun s).table = s.table ∧ (enterRun s).gov = s.gov ∧ (enterRun s).pending = s.pending := by
  unfold enterRun; simp

@[simp] theorem enterWarmup_frame (s : State) :
    (enterWarmup s).ring = s.ring ∧ (enterWarmup s).sig = s.sig ∧ (enterWarmup s).pos = s.pos ∧
      (enterWarmup s).table = s.table ∧ (enterWarmup s).pat = s.pat ∧ (enterWarmup s).fold = s.fold ∧
      (enterWarmup s).plan = s.plan ∧ (enterWarmup s).gov = s.gov ∧ (enterWarmup s).roll = s.roll ∧
      (enterWarmup s).fault = s.fault ∧ (enterWarmup s).pending = s.pending := by
  unfold enterWarmup; simp

@[simp] theorem enterThread_frame (s : State) :
    (enterThread s).ring = s.ring ∧ (enterThread s).sig = s.sig ∧ (enterThread s).pos = s.pos ∧
      (enterThread s).table = s.table ∧ (enterThread s).pat = s.pat ∧ (enterThread s).fold = s.fold ∧
      (enterThread s).plan = s.plan ∧ (enterThread s).gov = s.gov ∧ (enterThread s).roll = s.roll ∧
      (enterThread s).fault = s.fault ∧ (enterThread s).pending = s.pending := by
  unfold enterThread; simp

@[simp] theorem enterDrain_frame (s : State) :
    (enterDrain s).ring = s.ring ∧ (enterDrain s).sig = s.sig ∧ (enterDrain s).pos = s.pos ∧
      (enterDrain s).table = s.table ∧ (enterDrain s).pat = s.pat ∧ (enterDrain s).fold = s.fold ∧
      (enterDrain s).plan = s.plan ∧ (enterDrain s).gov = s.gov ∧ (enterDrain s).roll = s.roll ∧
      (enterDrain s).fault = s.fault ∧ (enterDrain s).pending = s.pending := by
  unfold enterDrain; simp

@[simp] theorem enterHalt_frame (s : State) :
    (enterHalt s).ring = s.ring ∧ (enterHalt s).sig = s.sig ∧ (enterHalt s).pos = s.pos ∧
      (enterHalt s).table = s.table ∧ (enterHalt s).pat = s.pat ∧ (enterHalt s).fold = s.fold ∧
      (enterHalt s).plan = s.plan ∧ (enterHalt s).gov = s.gov ∧ (enterHalt s).roll = s.roll ∧
      (enterHalt s).fault = s.fault ∧ (enterHalt s).pending = s.pending := by
  unfold enterHalt; simp

@[simp] theorem haltingStep_frame (s : State) :
    (haltingStep s).ring = s.ring ∧ (haltingStep s).sig = s.sig ∧ (haltingStep s).pos = s.pos ∧
      (haltingStep s).table = s.table ∧ (haltingStep s).pat = s.pat ∧ (haltingStep s).fold = s.fold ∧
      (haltingStep s).plan = s.plan ∧ (haltingStep s).gov = s.gov ∧ (haltingStep s).roll = s.roll ∧
      (haltingStep s).fault = s.fault ∧ (haltingStep s).pending = s.pending := by
  unfold haltingStep; repeat' split
  all_goals simp

@[simp] theorem arbitrate_frame (s : State) :
    (arbitrate s).ring = s.ring ∧ (arbitrate s).sig = s.sig ∧ (arbitrate s).pos = s.pos ∧
      (arbitrate s).table = s.table ∧ (arbitrate s).pat = s.pat ∧ (arbitrate s).fold = s.fold ∧
      (arbitrate s).plan = s.plan ∧ (arbitrate s).heat = s.heat ∧ (arbitrate s).gov = s.gov ∧
      (arbitrate s).roll = s.roll ∧ (arbitrate s).mode = s.mode ∧ (arbitrate s).fault = s.fault ∧
      (arbitrate s).pending = s.pending := by
  unfold arbitrate; repeat' split
  all_goals simp

@[simp] theorem askMode_frame (i : Nat) (s : State) :
    (askMode i s).ring = s.ring ∧ (askMode i s).sig = s.sig ∧ (askMode i s).pos = s.pos ∧
      (askMode i s).table = s.table ∧ (askMode i s).pending = s.pending := by
  unfold askMode; repeat' split
  all_goals simp

@[simp] theorem settleRound_frame (s : State) :
    (settleRound s).ring = s.ring ∧ (settleRound s).sig = s.sig ∧ (settleRound s).pos = s.pos ∧
      (settleRound s).table = s.table ∧ (settleRound s).pending = s.pending := by
  unfold settleRound
  dsimp only
  exact ⟨(foldl_keeps _ (·.ring) (by simp) _ _).trans (by simp),
    (foldl_keeps _ (·.sig) (by simp) _ _).trans (by simp),
    (foldl_keeps _ (·.pos) (by simp) _ _).trans (by simp),
    (foldl_keeps _ (·.table) (by simp) _ _).trans (by simp),
    (foldl_keeps _ (·.pending) (by simp) _ _).trans (by simp)⟩

@[simp] theorem settleLoop_frame (fuel : Nat) (s : State) :
    (settleLoop fuel s).ring = s.ring ∧ (settleLoop fuel s).sig = s.sig ∧ (settleLoop fuel s).pos = s.pos ∧
      (settleLoop fuel s).table = s.table ∧ (settleLoop fuel s).pending = s.pending := by
  induction fuel generalizing s with
  | zero => simp [settleLoop]
  | succ n ih => unfold settleLoop; dsimp only; split <;> simp [ih]

@[simp] theorem settle_frame (s : State) :
    (settle s).ring = s.ring ∧ (settle s).sig = s.sig ∧ (settle s).pos = s.pos ∧
      (settle s).table = s.table ∧ (settle s).pending = s.pending := by
  unfold settle; simp

@[simp] theorem purgeCount_frame (e : Nat) (s : State) :
    (purgeCount e s).ring = s.ring ∧ (purgeCount e s).sig = s.sig ∧ (purgeCount e s).pos = s.pos ∧
      (purgeCount e s).table = s.table ∧ (purgeCount e s).pending = s.pending := by
  unfold purgeCount
  dsimp only
  (repeat' split) <;> simp

@[simp] theorem reqWriteReaction_frame (args : List Word) (s : State) :
    (reqWriteReaction args s).1.ring = s.ring ∧ (reqWriteReaction args s).1.sig = s.sig ∧
      (reqWriteReaction args s).1.pos = s.pos ∧ (reqWriteReaction args s).1.table = s.table ∧
      (reqWriteReaction args s).1.pending = s.pending := by
  unfold reqWriteReaction; repeat' split
  all_goals simp

@[simp] theorem reqReadReaction_frame (args : List Word) (s : State) :
    (reqReadReaction args s).1.ring = s.ring ∧ (reqReadReaction args s).1.sig = s.sig ∧
      (reqReadReaction args s).1.pos = s.pos ∧ (reqReadReaction args s).1.table = s.table ∧
      (reqReadReaction args s).1.pat = s.pat ∧ (reqReadReaction args s).1.fold = s.fold ∧
      (reqReadReaction args s).1.plan = s.plan ∧ (reqReadReaction args s).1.heat = s.heat ∧
      (reqReadReaction args s).1.gov = s.gov ∧ (reqReadReaction args s).1.roll = s.roll ∧
      (reqReadReaction args s).1.react = s.react ∧ (reqReadReaction args s).1.mode = s.mode ∧
      (reqReadReaction args s).1.fault = s.fault ∧ (reqReadReaction args s).1.pending = s.pending := by
  unfold reqReadReaction; repeat' split
  all_goals simp

@[simp] theorem acknowledge_frame (i : Nat) (s : State) :
    (acknowledge i s).ring = s.ring ∧ (acknowledge i s).sig = s.sig ∧ (acknowledge i s).pos = s.pos ∧
      (acknowledge i s).table = s.table ∧ (acknowledge i s).pending = s.pending := by
  unfold acknowledge; split <;> simp

@[simp] theorem reqAckReaction_frame (args : List Word) (s : State) :
    (reqAckReaction args s).1.ring = s.ring ∧ (reqAckReaction args s).1.sig = s.sig ∧
      (reqAckReaction args s).1.pos = s.pos ∧ (reqAckReaction args s).1.table = s.table ∧
      (reqAckReaction args s).1.pending = s.pending := by
  unfold reqAckReaction; repeat' split
  all_goals simp

@[simp] theorem enterCut_frame (s : State) :
    (enterCut s).ring = s.ring ∧ (enterCut s).sig = s.sig ∧ (enterCut s).pos = s.pos ∧
      (enterCut s).table = s.table ∧ (enterCut s).pat = s.pat ∧ (enterCut s).fold = s.fold ∧
      (enterCut s).plan = s.plan ∧ (enterCut s).heat = s.heat ∧ (enterCut s).gov = s.gov ∧
      (enterCut s).react = s.react ∧ (enterCut s).mode = s.mode ∧ (enterCut s).fault = s.fault ∧
      (enterCut s).pending = s.pending := by
  unfold enterCut; simp

@[simp] theorem stopActive_frame (s : State) :
    (stopActive s).ring = s.ring ∧ (stopActive s).sig = s.sig ∧ (stopActive s).pos = s.pos ∧
      (stopActive s).table = s.table ∧ (stopActive s).pat = s.pat ∧ (stopActive s).fold = s.fold ∧
      (stopActive s).plan = s.plan ∧ (stopActive s).heat = s.heat ∧ (stopActive s).gov = s.gov ∧
      (stopActive s).react = s.react ∧ (stopActive s).mode = s.mode ∧ (stopActive s).fault = s.fault ∧
      (stopActive s).pending = s.pending := by
  unfold stopActive; split <;> simp

@[simp] theorem activateIncoming_frame (s : State) :
    (activateIncoming s).ring = s.ring ∧ (activateIncoming s).sig = s.sig ∧
      (activateIncoming s).pos = s.pos ∧ (activateIncoming s).table = s.table ∧
      (activateIncoming s).pat = s.pat ∧ (activateIncoming s).fold = s.fold ∧
      (activateIncoming s).plan = s.plan ∧ (activateIncoming s).heat = s.heat ∧
      (activateIncoming s).gov = s.gov ∧ (activateIncoming s).react = s.react ∧
      (activateIncoming s).mode = s.mode ∧ (activateIncoming s).fault = s.fault ∧
      (activateIncoming s).pending = s.pending := by
  unfold activateIncoming; split <;> simp

@[simp] theorem enterSettle_frame (s : State) :
    (enterSettle s).ring = s.ring ∧ (enterSettle s).sig = s.sig ∧ (enterSettle s).pos = s.pos ∧
      (enterSettle s).table = s.table ∧ (enterSettle s).pat = s.pat ∧ (enterSettle s).fold = s.fold ∧
      (enterSettle s).plan = s.plan ∧ (enterSettle s).heat = s.heat ∧ (enterSettle s).gov = s.gov ∧
      (enterSettle s).mode = s.mode ∧ (enterSettle s).pending = s.pending := by
  unfold enterSettle; simp

@[simp] theorem handshakeFailed_frame (detail : Nat) (s : State) :
    (handshakeFailed detail s).ring = s.ring ∧ (handshakeFailed detail s).sig = s.sig ∧
      (handshakeFailed detail s).pos = s.pos ∧ (handshakeFailed detail s).table = s.table ∧
      (handshakeFailed detail s).pat = s.pat ∧ (handshakeFailed detail s).fold = s.fold ∧
      (handshakeFailed detail s).plan = s.plan ∧ (handshakeFailed detail s).heat = s.heat ∧
      (handshakeFailed detail s).gov = s.gov ∧ (handshakeFailed detail s).mode = s.mode ∧
      (handshakeFailed detail s).pending = s.pending := by
  unfold handshakeFailed; simp

@[simp] theorem agePaste_frame (s : State) :
    (agePaste s).ring = s.ring ∧ (agePaste s).sig = s.sig ∧ (agePaste s).pos = s.pos ∧
      (agePaste s).table = s.table ∧ (agePaste s).pat = s.pat ∧ (agePaste s).fold = s.fold ∧
      (agePaste s).plan = s.plan ∧ (agePaste s).heat = s.heat ∧ (agePaste s).gov = s.gov ∧
      (agePaste s).mode = s.mode ∧ (agePaste s).pending = s.pending := by
  unfold agePaste
  dsimp only
  (repeat' split) <;> simp

@[simp] theorem ageCut_frame (s : State) :
    (ageCut s).ring = s.ring ∧ (ageCut s).sig = s.sig ∧ (ageCut s).pos = s.pos ∧
      (ageCut s).table = s.table ∧ (ageCut s).pat = s.pat ∧ (ageCut s).fold = s.fold ∧
      (ageCut s).plan = s.plan ∧ (ageCut s).heat = s.heat ∧ (ageCut s).gov = s.gov ∧
      (ageCut s).mode = s.mode ∧ (ageCut s).pending = s.pending := by
  unfold ageCut
  dsimp only
  (repeat' split) <;> simp

@[simp] theorem takeCutDone_frame (done : Serial8) (s : State) :
    (takeCutDone done s).ring = s.ring ∧ (takeCutDone done s).sig = s.sig ∧
      (takeCutDone done s).pos = s.pos ∧ (takeCutDone done s).table = s.table ∧
      (takeCutDone done s).pat = s.pat ∧ (takeCutDone done s).fold = s.fold ∧
      (takeCutDone done s).plan = s.plan ∧ (takeCutDone done s).heat = s.heat ∧
      (takeCutDone done s).gov = s.gov ∧ (takeCutDone done s).mode = s.mode ∧
      (takeCutDone done s).pending = s.pending := by
  unfold takeCutDone; repeat' split
  all_goals simp

@[simp] theorem takePasteDone_frame (done : Serial8) (s : State) :
    (takePasteDone done s).ring = s.ring ∧ (takePasteDone done s).sig = s.sig ∧
      (takePasteDone done s).pos = s.pos ∧ (takePasteDone done s).table = s.table ∧
      (takePasteDone done s).pat = s.pat ∧ (takePasteDone done s).fold = s.fold ∧
      (takePasteDone done s).plan = s.plan ∧ (takePasteDone done s).heat = s.heat ∧
      (takePasteDone done s).gov = s.gov ∧ (takePasteDone done s).react = s.react ∧
      (takePasteDone done s).mode = s.mode ∧ (takePasteDone done s).fault = s.fault ∧
      (takePasteDone done s).pending = s.pending := by
  unfold takePasteDone; repeat' split
  all_goals simp

@[simp] theorem takeSplice_frame (paste cut : Serial8) (s : State) :
    (takeSplice paste cut s).ring = s.ring ∧ (takeSplice paste cut s).sig = s.sig ∧
      (takeSplice paste cut s).pos = s.pos ∧ (takeSplice paste cut s).table = s.table ∧
      (takeSplice paste cut s).pat = s.pat ∧ (takeSplice paste cut s).fold = s.fold ∧
      (takeSplice paste cut s).plan = s.plan ∧ (takeSplice paste cut s).heat = s.heat ∧
      (takeSplice paste cut s).gov = s.gov ∧ (takeSplice paste cut s).mode = s.mode ∧
      (takeSplice paste cut s).pending = s.pending := by
  unfold takeSplice; split <;> simp

@[simp] theorem endSettle_frame (s : State) :
    (endSettle s).ring = s.ring ∧ (endSettle s).sig = s.sig ∧ (endSettle s).pos = s.pos ∧
      (endSettle s).table = s.table ∧ (endSettle s).pat = s.pat ∧ (endSettle s).fold = s.fold ∧
      (endSettle s).plan = s.plan ∧ (endSettle s).heat = s.heat ∧ (endSettle s).gov = s.gov ∧
      (endSettle s).mode = s.mode ∧ (endSettle s).fault = s.fault ∧ (endSettle s).pending = s.pending := by
  unfold endSettle; split <;> simp

@[simp] theorem settleCountStep_frame (e : Nat) (s : State) :
    (settleCountStep e s).ring = s.ring ∧ (settleCountStep e s).sig = s.sig ∧
      (settleCountStep e s).pos = s.pos ∧ (settleCountStep e s).table = s.table ∧
      (settleCountStep e s).pat = s.pat ∧ (settleCountStep e s).fold = s.fold ∧
      (settleCountStep e s).plan = s.plan ∧ (settleCountStep e s).heat = s.heat ∧
      (settleCountStep e s).gov = s.gov ∧ (settleCountStep e s).mode = s.mode ∧
      (settleCountStep e s).fault = s.fault ∧ (settleCountStep e s).pending = s.pending := by
  unfold settleCountStep
  dsimp only
  (repeat' split) <;> simp

@[simp] theorem judgeNoStandby_frame (s : State) :
    (judgeNoStandby s).ring = s.ring ∧ (judgeNoStandby s).sig = s.sig ∧ (judgeNoStandby s).pos = s.pos ∧
      (judgeNoStandby s).table = s.table ∧ (judgeNoStandby s).pat = s.pat ∧
      (judgeNoStandby s).fold = s.fold ∧ (judgeNoStandby s).plan = s.plan ∧
      (judgeNoStandby s).heat = s.heat ∧ (judgeNoStandby s).gov = s.gov ∧ (judgeNoStandby s).mode = s.mode ∧
      (judgeNoStandby s).pending = s.pending := by
  unfold judgeNoStandby; repeat' split
  all_goals simp

@[simp] theorem enterPrepare_frame (x : Stand) (s : State) :
    (enterPrepare x s).ring = s.ring ∧ (enterPrepare x s).sig = s.sig ∧ (enterPrepare x s).pos = s.pos ∧
      (enterPrepare x s).table = s.table ∧ (enterPrepare x s).pat = s.pat ∧
      (enterPrepare x s).fold = s.fold ∧ (enterPrepare x s).plan = s.plan ∧
      (enterPrepare x s).heat = s.heat ∧ (enterPrepare x s).gov = s.gov ∧
      (enterPrepare x s).react = s.react ∧ (enterPrepare x s).mode = s.mode ∧
      (enterPrepare x s).fault = s.fault ∧ (enterPrepare x s).pending = s.pending := by
  unfold enterPrepare; simp

@[simp] theorem forceChange_frame (x : Stand) (s : State) :
    (forceChange x s).ring = s.ring ∧ (forceChange x s).sig = s.sig ∧ (forceChange x s).pos = s.pos ∧
      (forceChange x s).table = s.table ∧ (forceChange x s).pat = s.pat ∧ (forceChange x s).fold = s.fold ∧
      (forceChange x s).heat = s.heat ∧ (forceChange x s).gov = s.gov ∧ (forceChange x s).react = s.react ∧
      (forceChange x s).mode = s.mode ∧ (forceChange x s).fault = s.fault ∧
      (forceChange x s).pending = s.pending := by
  unfold forceChange; simp

@[simp] theorem arm_frame (x : Stand) (s : State) :
    (arm x s).ring = s.ring ∧ (arm x s).sig = s.sig ∧ (arm x s).pos = s.pos ∧ (arm x s).table = s.table ∧
      (arm x s).pat = s.pat ∧ (arm x s).fold = s.fold ∧ (arm x s).heat = s.heat ∧ (arm x s).gov = s.gov ∧
      (arm x s).react = s.react ∧ (arm x s).mode = s.mode ∧ (arm x s).fault = s.fault ∧
      (arm x s).pending = s.pending := by
  unfold arm; simp

@[simp] theorem judgeArmed_frame (s : State) :
    (judgeArmed s).ring = s.ring ∧ (judgeArmed s).sig = s.sig ∧ (judgeArmed s).pos = s.pos ∧
      (judgeArmed s).table = s.table ∧ (judgeArmed s).pat = s.pat ∧ (judgeArmed s).fold = s.fold ∧
      (judgeArmed s).heat = s.heat ∧ (judgeArmed s).gov = s.gov ∧ (judgeArmed s).react = s.react ∧
      (judgeArmed s).mode = s.mode ∧ (judgeArmed s).fault = s.fault ∧
      (judgeArmed s).pending = s.pending := by
  unfold judgeArmed; repeat' split
  all_goals simp

@[simp] theorem judgeCommit_frame (s : State) :
    (judgeCommit s).ring = s.ring ∧ (judgeCommit s).sig = s.sig ∧ (judgeCommit s).pos = s.pos ∧
      (judgeCommit s).table = s.table ∧ (judgeCommit s).pat = s.pat ∧ (judgeCommit s).fold = s.fold ∧
      (judgeCommit s).heat = s.heat ∧ (judgeCommit s).gov = s.gov ∧ (judgeCommit s).react = s.react ∧
      (judgeCommit s).mode = s.mode ∧ (judgeCommit s).fault = s.fault ∧
      (judgeCommit s).pending = s.pending := by
  unfold judgeCommit; repeat' split
  all_goals simp

@[simp] theorem missWindow_frame (s : State) :
    (missWindow s).ring = s.ring ∧ (missWindow s).sig = s.sig ∧ (missWindow s).pos = s.pos ∧
      (missWindow s).table = s.table ∧ (missWindow s).pat = s.pat ∧ (missWindow s).fold = s.fold ∧
      (missWindow s).heat = s.heat ∧ (missWindow s).gov = s.gov ∧ (missWindow s).mode = s.mode ∧
      (missWindow s).pending = s.pending := by
  unfold missWindow
  dsimp only
  (repeat' split) <;> simp

@[simp] theorem growMatchTimer_frame (e : Nat) (s : State) :
    (growMatchTimer e s).ring = s.ring ∧ (growMatchTimer e s).sig = s.sig ∧
      (growMatchTimer e s).pos = s.pos ∧ (growMatchTimer e s).table = s.table ∧
      (growMatchTimer e s).pat = s.pat ∧ (growMatchTimer e s).fold = s.fold ∧
      (growMatchTimer e s).plan = s.plan ∧ (growMatchTimer e s).heat = s.heat ∧
      (growMatchTimer e s).gov = s.gov ∧ (growMatchTimer e s).react = s.react ∧
      (growMatchTimer e s).mode = s.mode ∧ (growMatchTimer e s).fault = s.fault ∧
      (growMatchTimer e s).pending = s.pending := by
  unfold growMatchTimer; split <;> simp

@[simp] theorem matchTimedOut_frame (s : State) :
    (matchTimedOut s).ring = s.ring ∧ (matchTimedOut s).sig = s.sig ∧ (matchTimedOut s).pos = s.pos ∧
      (matchTimedOut s).table = s.table ∧ (matchTimedOut s).pat = s.pat ∧ (matchTimedOut s).fold = s.fold ∧
      (matchTimedOut s).heat = s.heat ∧ (matchTimedOut s).gov = s.gov ∧ (matchTimedOut s).mode = s.mode ∧
      (matchTimedOut s).pending = s.pending := by
  unfold matchTimedOut; simp

@[simp] theorem judgeMatchTimeout_frame (s : State) :
    (judgeMatchTimeout s).ring = s.ring ∧ (judgeMatchTimeout s).sig = s.sig ∧
      (judgeMatchTimeout s).pos = s.pos ∧ (judgeMatchTimeout s).table = s.table ∧
      (judgeMatchTimeout s).pat = s.pat ∧ (judgeMatchTimeout s).fold = s.fold ∧
      (judgeMatchTimeout s).heat = s.heat ∧ (judgeMatchTimeout s).gov = s.gov ∧
      (judgeMatchTimeout s).mode = s.mode ∧ (judgeMatchTimeout s).pending = s.pending := by
  unfold judgeMatchTimeout; split <;> simp

@[simp] theorem judgePrepare_frame (e : Nat) (s : State) :
    (judgePrepare e s).ring = s.ring ∧ (judgePrepare e s).sig = s.sig ∧ (judgePrepare e s).pos = s.pos ∧
      (judgePrepare e s).table = s.table ∧ (judgePrepare e s).pat = s.pat ∧ (judgePrepare e s).fold = s.fold ∧
      (judgePrepare e s).heat = s.heat ∧ (judgePrepare e s).gov = s.gov ∧ (judgePrepare e s).mode = s.mode ∧
      (judgePrepare e s).pending = s.pending := by
  unfold judgePrepare
  dsimp only
  split <;> simp

@[simp] theorem rollJudge_frame (e : Nat) (s0 : State) :
    (rollJudge e s0).ring = s0.ring ∧ (rollJudge e s0).sig = s0.sig ∧ (rollJudge e s0).pos = s0.pos ∧
      (rollJudge e s0).table = s0.table ∧ (rollJudge e s0).pat = s0.pat ∧ (rollJudge e s0).fold = s0.fold ∧
      (rollJudge e s0).heat = s0.heat ∧ (rollJudge e s0).gov = s0.gov ∧ (rollJudge e s0).mode = s0.mode ∧
      (rollJudge e s0).pending = s0.pending := by
  unfold rollJudge
  dsimp only
  (repeat' split) <;> simp

@[simp] theorem judgeMatch_frame (s : State) :
    (judgeMatch s).ring = s.ring ∧ (judgeMatch s).sig = s.sig ∧ (judgeMatch s).pos = s.pos ∧
      (judgeMatch s).table = s.table ∧ (judgeMatch s).pat = s.pat ∧ (judgeMatch s).fold = s.fold ∧
      (judgeMatch s).plan = s.plan ∧ (judgeMatch s).heat = s.heat ∧ (judgeMatch s).gov = s.gov ∧
      (judgeMatch s).react = s.react ∧ (judgeMatch s).mode = s.mode ∧ (judgeMatch s).fault = s.fault ∧
      (judgeMatch s).pending = s.pending := by
  unfold judgeMatch; split <;> simp

@[simp] theorem makePaste_frame (s : State) :
    (makePaste s).ring = s.ring ∧ (makePaste s).sig = s.sig ∧ (makePaste s).pos = s.pos ∧
      (makePaste s).table = s.table ∧ (makePaste s).gov = s.gov ∧ (makePaste s).mode = s.mode ∧
      (makePaste s).pending = s.pending := by
  unfold makePaste; simp

@[simp] theorem matchAndPaste_frame (s : State) :
    (matchAndPaste s).ring = s.ring ∧ (matchAndPaste s).sig = s.sig ∧ (matchAndPaste s).pos = s.pos ∧
      (matchAndPaste s).table = s.table ∧ (matchAndPaste s).gov = s.gov ∧ (matchAndPaste s).mode = s.mode ∧
      (matchAndPaste s).pending = s.pending := by
  unfold matchAndPaste
  dsimp only
  (repeat' split) <;> simp

@[simp] theorem endActive_frame (x : Stand) (s : State) :
    (endActive x s).ring = s.ring ∧ (endActive x s).sig = s.sig ∧ (endActive x s).pos = s.pos ∧
      (endActive x s).table = s.table ∧ (endActive x s).pat = s.pat ∧ (endActive x s).fold = s.fold ∧
      (endActive x s).plan = s.plan ∧ (endActive x s).heat = s.heat ∧ (endActive x s).gov = s.gov ∧
      (endActive x s).react = s.react ∧ (endActive x s).mode = s.mode ∧ (endActive x s).fault = s.fault ∧
      (endActive x s).pending = s.pending := by
  unfold endActive; split <;> simp

@[simp] theorem nameActive_frame (x : Option Stand) (s : State) :
    (nameActive x s).ring = s.ring ∧ (nameActive x s).sig = s.sig ∧ (nameActive x s).pos = s.pos ∧
      (nameActive x s).table = s.table ∧ (nameActive x s).pat = s.pat ∧ (nameActive x s).fold = s.fold ∧
      (nameActive x s).plan = s.plan ∧ (nameActive x s).heat = s.heat ∧ (nameActive x s).gov = s.gov ∧
      (nameActive x s).mode = s.mode ∧ (nameActive x s).pending = s.pending := by
  unfold nameActive; split <;> simp

@[simp] theorem reqSetActiveStand_frame (args : List Word) (s : State) :
    (reqSetActiveStand args s).1.ring = s.ring ∧ (reqSetActiveStand args s).1.sig = s.sig ∧
      (reqSetActiveStand args s).1.pos = s.pos ∧ (reqSetActiveStand args s).1.table = s.table ∧
      (reqSetActiveStand args s).1.pending = s.pending := by
  unfold reqSetActiveStand; repeat' split
  all_goals simp

@[simp] theorem reqStartRollChange_frame (args : List Word) (s : State) :
    (reqStartRollChange args s).1.ring = s.ring ∧ (reqStartRollChange args s).1.sig = s.sig ∧
      (reqStartRollChange args s).1.pos = s.pos ∧ (reqStartRollChange args s).1.table = s.table ∧
      (reqStartRollChange args s).1.pending = s.pending := by
  unfold reqStartRollChange; repeat' split
  all_goals simp

@[simp] theorem cancelChange_frame (s : State) :
    (cancelChange s).ring = s.ring ∧ (cancelChange s).sig = s.sig ∧ (cancelChange s).pos = s.pos ∧
      (cancelChange s).table = s.table ∧ (cancelChange s).pat = s.pat ∧ (cancelChange s).fold = s.fold ∧
      (cancelChange s).heat = s.heat ∧ (cancelChange s).gov = s.gov ∧ (cancelChange s).react = s.react ∧
      (cancelChange s).mode = s.mode ∧ (cancelChange s).fault = s.fault ∧
      (cancelChange s).pending = s.pending := by
  unfold cancelChange; simp

@[simp] theorem reqCancelRollChange_frame (args : List Word) (s : State) :
    (reqCancelRollChange args s).1.ring = s.ring ∧ (reqCancelRollChange args s).1.sig = s.sig ∧
      (reqCancelRollChange args s).1.pos = s.pos ∧ (reqCancelRollChange args s).1.table = s.table ∧
      (reqCancelRollChange args s).1.pat = s.pat ∧ (reqCancelRollChange args s).1.fold = s.fold ∧
      (reqCancelRollChange args s).1.heat = s.heat ∧ (reqCancelRollChange args s).1.gov = s.gov ∧
      (reqCancelRollChange args s).1.react = s.react ∧ (reqCancelRollChange args s).1.mode = s.mode ∧
      (reqCancelRollChange args s).1.fault = s.fault ∧
      (reqCancelRollChange args s).1.pending = s.pending := by
  unfold reqCancelRollChange; repeat' split
  all_goals simp

@[simp] theorem lowerBudget_frame (n : Nat) (s : State) :
    (lowerBudget n s).sig = s.sig ∧ (lowerBudget n s).pos = s.pos ∧ (lowerBudget n s).table = s.table ∧
      (lowerBudget n s).pat = s.pat ∧ (lowerBudget n s).fold = s.fold ∧ (lowerBudget n s).plan = s.plan ∧
      (lowerBudget n s).heat = s.heat ∧ (lowerBudget n s).gov = s.gov ∧ (lowerBudget n s).roll = s.roll ∧
      (lowerBudget n s).mode = s.mode ∧ (lowerBudget n s).pending = s.pending := by
  unfold lowerBudget
  dsimp only
  (repeat' split) <;> simp

@[simp] theorem endWindow_frame (s : State) :
    (endWindow s).sig = s.sig ∧ (endWindow s).pos = s.pos ∧ (endWindow s).table = s.table ∧
      (endWindow s).pat = s.pat ∧ (endWindow s).fold = s.fold ∧ (endWindow s).plan = s.plan ∧
      (endWindow s).heat = s.heat ∧ (endWindow s).gov = s.gov ∧ (endWindow s).roll = s.roll ∧
      (endWindow s).mode = s.mode ∧ (endWindow s).fault = s.fault ∧ (endWindow s).pending = s.pending := by
  unfold endWindow; split <;> simp

@[simp] theorem windowCount_frame (e : Nat) (s : State) :
    (windowCount e s).sig = s.sig ∧ (windowCount e s).pos = s.pos ∧ (windowCount e s).table = s.table ∧
      (windowCount e s).pat = s.pat ∧ (windowCount e s).fold = s.fold ∧ (windowCount e s).plan = s.plan ∧
      (windowCount e s).heat = s.heat ∧ (windowCount e s).gov = s.gov ∧ (windowCount e s).roll = s.roll ∧
      (windowCount e s).mode = s.mode ∧ (windowCount e s).fault = s.fault ∧
      (windowCount e s).pending = s.pending := by
  unfold windowCount
  dsimp only
  (repeat' split) <;> simp

@[simp] theorem judgeSignalConds_frame (s : State) :
    (judgeSignalConds s).ring = s.ring ∧ (judgeSignalConds s).sig = s.sig ∧
      (judgeSignalConds s).pos = s.pos ∧ (judgeSignalConds s).table = s.table ∧
      (judgeSignalConds s).pat = s.pat ∧ (judgeSignalConds s).fold = s.fold ∧
      (judgeSignalConds s).plan = s.plan ∧ (judgeSignalConds s).heat = s.heat ∧
      (judgeSignalConds s).gov = s.gov ∧ (judgeSignalConds s).roll = s.roll ∧
      (judgeSignalConds s).mode = s.mode ∧ (judgeSignalConds s).fault = s.fault ∧
      (judgeSignalConds s).pending = s.pending := by
  unfold judgeSignalConds; simp

@[simp] theorem handLost_frame (i : Nat) (s : State) :
    (handLost i s).ring = s.ring ∧ (handLost i s).sig = s.sig ∧ (handLost i s).pos = s.pos ∧
      (handLost i s).table = s.table ∧ (handLost i s).pat = s.pat ∧ (handLost i s).heat = s.heat ∧
      (handLost i s).gov = s.gov ∧ (handLost i s).roll = s.roll ∧ (handLost i s).mode = s.mode ∧
      (handLost i s).pending = s.pending := by
  unfold handLost; split <;> simp

@[simp] theorem loseSignal_frame (i : Nat) (s : State) :
    (loseSignal i s).ring = s.ring ∧ (loseSignal i s).pos = s.pos ∧ (loseSignal i s).table = s.table ∧
      (loseSignal i s).pat = s.pat ∧ (loseSignal i s).heat = s.heat ∧ (loseSignal i s).gov = s.gov ∧
      (loseSignal i s).mode = s.mode ∧ (loseSignal i s).pending = s.pending := by
  unfold loseSignal; simp

@[simp] theorem notFresh_frame (i : Nat) (s : State) :
    (notFresh i s).ring = s.ring ∧ (notFresh i s).pos = s.pos ∧ (notFresh i s).table = s.table ∧
      (notFresh i s).pat = s.pat ∧ (notFresh i s).heat = s.heat ∧ (notFresh i s).gov = s.gov ∧
      (notFresh i s).mode = s.mode ∧ (notFresh i s).pending = s.pending := by
  unfold notFresh
  dsimp only
  (repeat' split) <;> simp

@[simp] theorem handSample_frame (i : Nat) (v : Word) (s : State) :
    (handSample i v s).ring = s.ring ∧ (handSample i v s).sig = s.sig ∧ (handSample i v s).table = s.table ∧
      (handSample i v s).pat = s.pat ∧ (handSample i v s).gov = s.gov ∧ (handSample i v s).mode = s.mode ∧
      (handSample i v s).pending = s.pending := by
  unfold handSample; (repeat' split) <;> simp

@[simp] theorem encoderJump_frame (i : Nat) (s : State) :
    (encoderJump i s).ring = s.ring ∧ (encoderJump i s).sig = s.sig ∧ (encoderJump i s).table = s.table ∧
      (encoderJump i s).pat = s.pat ∧ (encoderJump i s).fold = s.fold ∧ (encoderJump i s).plan = s.plan ∧
      (encoderJump i s).heat = s.heat ∧ (encoderJump i s).gov = s.gov ∧ (encoderJump i s).roll = s.roll ∧
      (encoderJump i s).mode = s.mode ∧ (encoderJump i s).pending = s.pending := by
  unfold encoderJump; (repeat' split) <;> simp

@[simp] theorem kindMismatch_frame (i : Nat) (s : State) :
    (kindMismatch i s).ring = s.ring ∧ (kindMismatch i s).pos = s.pos ∧ (kindMismatch i s).table = s.table ∧
      (kindMismatch i s).pat = s.pat ∧ (kindMismatch i s).fold = s.fold ∧ (kindMismatch i s).plan = s.plan ∧
      (kindMismatch i s).heat = s.heat ∧ (kindMismatch i s).gov = s.gov ∧ (kindMismatch i s).roll = s.roll ∧
      (kindMismatch i s).mode = s.mode ∧ (kindMismatch i s).pending = s.pending := by
  unfold kindMismatch; split <;> simp

@[simp] theorem nodeFaulted_frame (i : Nat) (s : State) :
    (nodeFaulted i s).ring = s.ring ∧ (nodeFaulted i s).pos = s.pos ∧ (nodeFaulted i s).table = s.table ∧
      (nodeFaulted i s).pat = s.pat ∧ (nodeFaulted i s).fold = s.fold ∧ (nodeFaulted i s).plan = s.plan ∧
      (nodeFaulted i s).heat = s.heat ∧ (nodeFaulted i s).gov = s.gov ∧ (nodeFaulted i s).roll = s.roll ∧
      (nodeFaulted i s).mode = s.mode ∧ (nodeFaulted i s).pending = s.pending := by
  unfold nodeFaulted; split <;> simp

@[simp] theorem slotHeard_frame (i : Nat) (toggle : Bool) (s : State) :
    (slotHeard i toggle s).ring = s.ring ∧ (slotHeard i toggle s).pos = s.pos ∧
      (slotHeard i toggle s).table = s.table ∧ (slotHeard i toggle s).pat = s.pat ∧
      (slotHeard i toggle s).fold = s.fold ∧ (slotHeard i toggle s).plan = s.plan ∧
      (slotHeard i toggle s).heat = s.heat ∧ (slotHeard i toggle s).gov = s.gov ∧
      (slotHeard i toggle s).roll = s.roll ∧ (slotHeard i toggle s).react = s.react ∧
      (slotHeard i toggle s).mode = s.mode ∧ (slotHeard i toggle s).fault = s.fault ∧
      (slotHeard i toggle s).pending = s.pending := by
  unfold slotHeard; simp

@[simp] theorem slotOk_frame (i : Nat) (toggle : Bool) (s : State) :
    (slotOk i toggle s).ring = s.ring ∧ (slotOk i toggle s).pos = s.pos ∧ (slotOk i toggle s).table = s.table ∧
      (slotOk i toggle s).pat = s.pat ∧ (slotOk i toggle s).fold = s.fold ∧ (slotOk i toggle s).plan = s.plan ∧
      (slotOk i toggle s).heat = s.heat ∧ (slotOk i toggle s).gov = s.gov ∧ (slotOk i toggle s).roll = s.roll ∧
      (slotOk i toggle s).react = s.react ∧ (slotOk i toggle s).mode = s.mode ∧
      (slotOk i toggle s).fault = s.fault ∧ (slotOk i toggle s).pending = s.pending := by
  unfold slotOk; simp

@[simp] theorem judgeSlot_frame (f : CycleFrame) (i k : Nat) (s : State) :
    (judgeSlot f i k s).ring = s.ring ∧ (judgeSlot f i k s).table = s.table ∧ (judgeSlot f i k s).pat = s.pat ∧
      (judgeSlot f i k s).gov = s.gov ∧ (judgeSlot f i k s).mode = s.mode ∧
      (judgeSlot f i k s).pending = s.pending := by
  unfold judgeSlot; split <;> simp

@[simp] theorem judgeCommand_frame (f : CycleFrame) (i k : Nat) (s : State) :
    (judgeCommand f i k s).ring = s.ring ∧ (judgeCommand f i k s).pos = s.pos ∧
      (judgeCommand f i k s).table = s.table ∧ (judgeCommand f i k s).pat = s.pat ∧
      (judgeCommand f i k s).fold = s.fold ∧ (judgeCommand f i k s).plan = s.plan ∧
      (judgeCommand f i k s).heat = s.heat ∧ (judgeCommand f i k s).gov = s.gov ∧
      (judgeCommand f i k s).roll = s.roll ∧ (judgeCommand f i k s).mode = s.mode ∧
      (judgeCommand f i k s).pending = s.pending := by
  unfold judgeCommand; (repeat' split) <;> simp

@[simp] theorem judgeSignal_frame (f : CycleFrame) (i : Nat) (s : State) :
    (judgeSignal f i s).ring = s.ring ∧ (judgeSignal f i s).table = s.table ∧ (judgeSignal f i s).pat = s.pat ∧
      (judgeSignal f i s).gov = s.gov ∧ (judgeSignal f i s).mode = s.mode ∧
      (judgeSignal f i s).pending = s.pending := by
  unfold judgeSignal; (repeat' split) <;> simp

@[simp] theorem forceOnSaturation_frame (old s : State) :
    (forceOnSaturation old s).ring = s.ring ∧ (forceOnSaturation old s).sig = s.sig ∧
      (forceOnSaturation old s).pos = s.pos ∧ (forceOnSaturation old s).table = s.table ∧
      (forceOnSaturation old s).pending = s.pending := by
  unfold forceOnSaturation; split <;> simp

@[simp] theorem consumersJudge_frame (f : CycleFrame) (old s : State) :
    (consumersJudge f old s).ring = s.ring ∧ (consumersJudge f old s).sig = s.sig ∧
      (consumersJudge f old s).pos = s.pos ∧ (consumersJudge f old s).table = s.table ∧
      (consumersJudge f old s).pending = s.pending := by
  unfold consumersJudge; simp

@[simp] theorem spliceSample_frame (v : Option Word) (s : State) :
    (spliceSample v s).ring = s.ring ∧ (spliceSample v s).sig = s.sig ∧ (spliceSample v s).pos = s.pos ∧
      (spliceSample v s).table = s.table ∧ (spliceSample v s).pending = s.pending := by
  unfold spliceSample; split <;> simp

/-- SIG's pass over a frame's signals and the readings it takes change no mode and command nothing: REACT and MODE
act once all of them are taken (R94, R128). -/
@[simp] theorem judgeSignals_frame (f : CycleFrame) (l : List Nat) (s : State) :
    (l.foldl (fun t i => judgeSignal f i t) s).ring = s.ring ∧
      (l.foldl (fun t i => judgeSignal f i t) s).table = s.table ∧
      (l.foldl (fun t i => judgeSignal f i t) s).pat = s.pat ∧
      (l.foldl (fun t i => judgeSignal f i t) s).gov = s.gov ∧
      (l.foldl (fun t i => judgeSignal f i t) s).mode = s.mode ∧
      (l.foldl (fun t i => judgeSignal f i t) s).pending = s.pending :=
  ⟨foldl_keeps _ (·.ring) (by simp) _ _, foldl_keeps _ (·.table) (by simp) _ _,
    foldl_keeps _ (·.pat) (by simp) _ _, foldl_keeps _ (·.gov) (by simp) _ _,
    foldl_keeps _ (·.mode) (by simp) _ _, foldl_keeps _ (·.pending) (by simp) _ _⟩

@[simp] theorem judgeSlots_frame (f : CycleFrame) (s : State) :
    (judgeSlots f s).ring = s.ring ∧ (judgeSlots f s).table = s.table ∧
      (judgeSlots f s).pending = s.pending := by
  unfold judgeSlots; simp

@[simp] theorem judgeTrip_frame (x : TripInput) (s : State) :
    (judgeTrip x s).ring = s.ring ∧ (judgeTrip x s).sig = s.sig ∧ (judgeTrip x s).pos = s.pos ∧
      (judgeTrip x s).table = s.table ∧ (judgeTrip x s).pat = s.pat ∧ (judgeTrip x s).fold = s.fold ∧
      (judgeTrip x s).plan = s.plan ∧ (judgeTrip x s).heat = s.heat ∧ (judgeTrip x s).gov = s.gov ∧
      (judgeTrip x s).roll = s.roll ∧ (judgeTrip x s).mode = s.mode ∧
      (judgeTrip x s).pending = s.pending := by
  unfold judgeTrip; simp

@[simp] theorem tripEdge_frame (x : TripInput) (s : State) :
    (tripEdge x s).ring = s.ring ∧ (tripEdge x s).pos = s.pos ∧ (tripEdge x s).table = s.table ∧
      (tripEdge x s).pat = s.pat ∧ (tripEdge x s).fold = s.fold ∧ (tripEdge x s).plan = s.plan ∧
      (tripEdge x s).heat = s.heat ∧ (tripEdge x s).gov = s.gov ∧ (tripEdge x s).roll = s.roll ∧
      (tripEdge x s).react = s.react ∧ (tripEdge x s).mode = s.mode ∧ (tripEdge x s).fault = s.fault ∧
      (tripEdge x s).pending = s.pending := by
  unfold tripEdge; split <;> simp

@[simp] theorem tripChange_frame (x : TripInput) (level : Bool) (s : State) :
    (tripChange x level s).ring = s.ring ∧ (tripChange x level s).pos = s.pos ∧
      (tripChange x level s).table = s.table ∧ (tripChange x level s).pat = s.pat ∧
      (tripChange x level s).fold = s.fold ∧ (tripChange x level s).plan = s.plan ∧
      (tripChange x level s).heat = s.heat ∧ (tripChange x level s).gov = s.gov ∧
      (tripChange x level s).roll = s.roll ∧ (tripChange x level s).mode = s.mode ∧
      (tripChange x level s).pending = s.pending := by
  unfold tripChange; split <;> simp

@[simp] theorem clearLatch_frame (x : TripInput) (s : State) :
    (clearLatch x s).ring = s.ring ∧ (clearLatch x s).pos = s.pos ∧ (clearLatch x s).table = s.table ∧
      (clearLatch x s).pat = s.pat ∧ (clearLatch x s).fold = s.fold ∧ (clearLatch x s).plan = s.plan ∧
      (clearLatch x s).heat = s.heat ∧ (clearLatch x s).gov = s.gov ∧ (clearLatch x s).roll = s.roll ∧
      (clearLatch x s).mode = s.mode ∧ (clearLatch x s).pending = s.pending := by
  unfold clearLatch; simp

@[simp] theorem writeSignalOn_frame (i k kind limit : Nat) (s : State) :
    (writeSignalOn i k kind limit s).ring = s.ring ∧ (writeSignalOn i k kind limit s).pos = s.pos ∧
      (writeSignalOn i k kind limit s).table = s.table ∧
      (writeSignalOn i k kind limit s).pending = s.pending := by
  unfold writeSignalOn; simp

@[simp] theorem reqWriteSignal_frame (args : List Word) (s : State) :
    (reqWriteSignal args s).1.ring = s.ring ∧ (reqWriteSignal args s).1.pos = s.pos ∧
      (reqWriteSignal args s).1.table = s.table ∧ (reqWriteSignal args s).1.pending = s.pending := by
  unfold reqWriteSignal; repeat' split
  all_goals simp

@[simp] theorem reqReadSignal_frame (args : List Word) (s : State) :
    (reqReadSignal args s).1.ring = s.ring ∧ (reqReadSignal args s).1.sig = s.sig ∧
      (reqReadSignal args s).1.pos = s.pos ∧ (reqReadSignal args s).1.table = s.table ∧
      (reqReadSignal args s).1.pat = s.pat ∧ (reqReadSignal args s).1.fold = s.fold ∧
      (reqReadSignal args s).1.plan = s.plan ∧ (reqReadSignal args s).1.heat = s.heat ∧
      (reqReadSignal args s).1.gov = s.gov ∧ (reqReadSignal args s).1.roll = s.roll ∧
      (reqReadSignal args s).1.react = s.react ∧ (reqReadSignal args s).1.mode = s.mode ∧
      (reqReadSignal args s).1.fault = s.fault ∧ (reqReadSignal args s).1.pending = s.pending := by
  unfold reqReadSignal; repeat' split
  all_goals simp

@[simp] theorem reqAckTrip_frame (args : List Word) (s : State) :
    (reqAckTrip args s).1.ring = s.ring ∧ (reqAckTrip args s).1.pos = s.pos ∧
      (reqAckTrip args s).1.table = s.table ∧ (reqAckTrip args s).1.pending = s.pending := by
  unfold reqAckTrip; repeat' split
  all_goals simp

@[simp] theorem leaveSet_frame (s : State) :
    (leaveSet s).ring = s.ring ∧ (leaveSet s).sig = s.sig ∧ (leaveSet s).pos = s.pos ∧
      (leaveSet s).table = s.table ∧ (leaveSet s).pat = s.pat ∧ (leaveSet s).fold = s.fold ∧
      (leaveSet s).plan = s.plan ∧ (leaveSet s).gov = s.gov ∧ (leaveSet s).roll = s.roll ∧
      (leaveSet s).mode = s.mode ∧ (leaveSet s).fault = s.fault ∧ (leaveSet s).pending = s.pending := by
  unfold leaveSet; split <;> simp

@[simp] theorem storeParams_frame (pairs : List (Word × Word)) (s : State) :
    (storeParams pairs s).ring = s.ring ∧ (storeParams pairs s).sig = s.sig ∧
      (storeParams pairs s).pos = s.pos ∧ (storeParams pairs s).pending = s.pending := by
  unfold storeParams; simp

@[simp] theorem reqWriteLineParam_frame (args : List Word) (s : State) :
    (reqWriteLineParam args s).1.ring = s.ring ∧ (reqWriteLineParam args s).1.sig = s.sig ∧
      (reqWriteLineParam args s).1.pos = s.pos ∧ (reqWriteLineParam args s).1.pending = s.pending := by
  unfold reqWriteLineParam; repeat' split
  all_goals simp

@[simp] theorem reqReadLineParam_frame (args : List Word) (s : State) :
    (reqReadLineParam args s).1.ring = s.ring ∧ (reqReadLineParam args s).1.sig = s.sig ∧
      (reqReadLineParam args s).1.pos = s.pos ∧ (reqReadLineParam args s).1.table = s.table ∧
      (reqReadLineParam args s).1.pat = s.pat ∧ (reqReadLineParam args s).1.fold = s.fold ∧
      (reqReadLineParam args s).1.plan = s.plan ∧ (reqReadLineParam args s).1.heat = s.heat ∧
      (reqReadLineParam args s).1.gov = s.gov ∧ (reqReadLineParam args s).1.roll = s.roll ∧
      (reqReadLineParam args s).1.react = s.react ∧ (reqReadLineParam args s).1.mode = s.mode ∧
      (reqReadLineParam args s).1.fault = s.fault ∧ (reqReadLineParam args s).1.pending = s.pending := by
  unfold reqReadLineParam; repeat' split
  all_goals simp

@[simp] theorem applyTrip_frame (old : List Nat) (x : TripInput) (s : State) :
    (applyTrip old x s).ring = s.ring ∧ (applyTrip old x s).pos = s.pos ∧
      (applyTrip old x s).table = s.table ∧ (applyTrip old x s).pat = s.pat ∧
      (applyTrip old x s).fold = s.fold ∧ (applyTrip old x s).plan = s.plan ∧
      (applyTrip old x s).heat = s.heat ∧ (applyTrip old x s).gov = s.gov ∧
      (applyTrip old x s).roll = s.roll ∧ (applyTrip old x s).mode = s.mode ∧
      (applyTrip old x s).pending = s.pending := by
  unfold applyTrip; split <;> simp

@[simp] theorem applyTable_frame (s : State) :
    (applyTable s).pos = s.pos ∧ (applyTable s).pending = s.pending := by
  unfold applyTable; simp

@[simp] theorem reqApplyLine_frame (args : List Word) (s : State) :
    (reqApplyLine args s).1.pos = s.pos ∧ (reqApplyLine args s).1.pending = s.pending := by
  unfold reqApplyLine; repeat' split
  all_goals simp

@[simp] theorem makeTransition_frame (m : Mode) (s : State) :
    (makeTransition m s).ring = s.ring ∧ (makeTransition m s).sig = s.sig ∧
      (makeTransition m s).pos = s.pos ∧ (makeTransition m s).table = s.table ∧
      (makeTransition m s).pending = s.pending := by
  unfold makeTransition; repeat' split
  all_goals simp

@[simp] theorem setModeChecked_frame (m : Mode) (s : State) :
    (setModeChecked m s).1.ring = s.ring ∧ (setModeChecked m s).1.sig = s.sig ∧
      (setModeChecked m s).1.pos = s.pos ∧ (setModeChecked m s).1.table = s.table ∧
      (setModeChecked m s).1.pending = s.pending := by
  unfold setModeChecked; split <;> simp

@[simp] theorem reqSetMode_frame (args : List Word) (s : State) :
    (reqSetMode args s).1.ring = s.ring ∧ (reqSetMode args s).1.sig = s.sig ∧
      (reqSetMode args s).1.pos = s.pos ∧ (reqSetMode args s).1.table = s.table ∧
      (reqSetMode args s).1.pending = s.pending := by
  unfold reqSetMode; repeat' split
  all_goals simp

@[simp] theorem lineReset_frame (s : State) :
    (lineReset s).ring = s.ring ∧ (lineReset s).table = s.table ∧ (lineReset s).pending = s.pending := by
  unfold lineReset
  simp [clearedConds]

@[simp] theorem reqLineReset_frame (args : List Word) (s : State) :
    (reqLineReset args s).1.ring = s.ring ∧ (reqLineReset args s).1.table = s.table ∧
      (reqLineReset args s).1.pending = s.pending := by
  unfold reqLineReset; repeat' split
  all_goals simp

@[simp] theorem abortPanel_frame (s : State) :
    (abortPanel s).ring = s.ring ∧ (abortPanel s).sig = s.sig ∧ (abortPanel s).pos = s.pos ∧
      (abortPanel s).table = s.table ∧ (abortPanel s).pending = s.pending := by
  unfold abortPanel; simp

@[simp] theorem reqAbortPanel_frame (args : List Word) (s : State) :
    (reqAbortPanel args s).1.ring = s.ring ∧ (reqAbortPanel args s).1.sig = s.sig ∧
      (reqAbortPanel args s).1.pos = s.pos ∧ (reqAbortPanel args s).1.table = s.table ∧
      (reqAbortPanel args s).1.pending = s.pending := by
  unfold reqAbortPanel; repeat' split
  all_goals simp

@[simp] theorem reqReadCompletions_frame (args : List Word) (s : State) :
    (reqReadCompletions args s).1.ring = s.ring ∧ (reqReadCompletions args s).1.sig = s.sig ∧
      (reqReadCompletions args s).1.pos = s.pos ∧ (reqReadCompletions args s).1.table = s.table ∧
      (reqReadCompletions args s).1.pat = s.pat ∧ (reqReadCompletions args s).1.fold = s.fold ∧
      (reqReadCompletions args s).1.heat = s.heat ∧ (reqReadCompletions args s).1.gov = s.gov ∧
      (reqReadCompletions args s).1.roll = s.roll ∧ (reqReadCompletions args s).1.react = s.react ∧
      (reqReadCompletions args s).1.mode = s.mode ∧ (reqReadCompletions args s).1.fault = s.fault ∧
      (reqReadCompletions args s).1.pending = s.pending := by
  unfold reqReadCompletions; repeat' split
  all_goals simp

@[simp] theorem reqReadFaults_frame (args : List Word) (s : State) :
    (reqReadFaults args s).1.ring = s.ring ∧ (reqReadFaults args s).1.sig = s.sig ∧
      (reqReadFaults args s).1.pos = s.pos ∧ (reqReadFaults args s).1.table = s.table ∧
      (reqReadFaults args s).1.pat = s.pat ∧ (reqReadFaults args s).1.fold = s.fold ∧
      (reqReadFaults args s).1.plan = s.plan ∧ (reqReadFaults args s).1.heat = s.heat ∧
      (reqReadFaults args s).1.gov = s.gov ∧ (reqReadFaults args s).1.roll = s.roll ∧
      (reqReadFaults args s).1.react = s.react ∧ (reqReadFaults args s).1.mode = s.mode ∧
      (reqReadFaults args s).1.fault = s.fault ∧ (reqReadFaults args s).1.pending = s.pending := by
  unfold reqReadFaults; repeat' split
  all_goals simp

@[simp] theorem clearFlags_frame (s : State) :
    (clearFlags s).ring = s.ring ∧ (clearFlags s).sig = s.sig ∧ (clearFlags s).pos = s.pos ∧
      (clearFlags s).table = s.table ∧ (clearFlags s).pending = s.pending := by
  unfold clearFlags; simp

@[simp] theorem reqClearFaults_frame (args : List Word) (s : State) :
    (reqClearFaults args s).1.ring = s.ring ∧ (reqClearFaults args s).1.sig = s.sig ∧
      (reqClearFaults args s).1.pos = s.pos ∧ (reqClearFaults args s).1.table = s.table ∧
      (reqClearFaults args s).1.pending = s.pending := by
  unfold reqClearFaults; split <;> simp

@[simp] theorem reqReadView_frame (args : List Word) (s : State) :
    (reqReadView args s).1.ring = s.ring ∧ (reqReadView args s).1.sig = s.sig ∧
      (reqReadView args s).1.pos = s.pos ∧ (reqReadView args s).1.table = s.table ∧
      (reqReadView args s).1.pat = s.pat ∧ (reqReadView args s).1.fold = s.fold ∧
      (reqReadView args s).1.plan = s.plan ∧ (reqReadView args s).1.heat = s.heat ∧
      (reqReadView args s).1.gov = s.gov ∧ (reqReadView args s).1.roll = s.roll ∧
      (reqReadView args s).1.react = s.react ∧ (reqReadView args s).1.mode = s.mode ∧
      (reqReadView args s).1.fault = s.fault ∧ (reqReadView args s).1.pending = s.pending := by
  unfold reqReadView; repeat' split
  all_goals simp

@[simp] theorem sendAnswer_frame (code count : Byte) (r : Request) (a : Answer) (s : State) :
    (sendAnswer code count r a s).sig = s.sig ∧ (sendAnswer code count r a s).pos = s.pos ∧
      (sendAnswer code count r a s).table = s.table ∧ (sendAnswer code count r a s).pat = s.pat ∧
      (sendAnswer code count r a s).fold = s.fold ∧ (sendAnswer code count r a s).plan = s.plan ∧
      (sendAnswer code count r a s).heat = s.heat ∧ (sendAnswer code count r a s).gov = s.gov ∧
      (sendAnswer code count r a s).roll = s.roll ∧ (sendAnswer code count r a s).react = s.react ∧
      (sendAnswer code count r a s).mode = s.mode ∧ (sendAnswer code count r a s).fault = s.fault ∧
      (sendAnswer code count r a s).pending = s.pending := by
  unfold sendAnswer; simp

@[simp] theorem reqIdentify_frame (args : List Word) (s : State) :
    (reqIdentify args s).1.ring = s.ring ∧ (reqIdentify args s).1.sig = s.sig ∧
      (reqIdentify args s).1.pos = s.pos ∧ (reqIdentify args s).1.table = s.table ∧
      (reqIdentify args s).1.pat = s.pat ∧ (reqIdentify args s).1.fold = s.fold ∧
      (reqIdentify args s).1.plan = s.plan ∧ (reqIdentify args s).1.heat = s.heat ∧
      (reqIdentify args s).1.gov = s.gov ∧ (reqIdentify args s).1.roll = s.roll ∧
      (reqIdentify args s).1.react = s.react ∧ (reqIdentify args s).1.mode = s.mode ∧
      (reqIdentify args s).1.fault = s.fault ∧ (reqIdentify args s).1.pending = s.pending := by
  unfold reqIdentify; split <;> simp

@[simp] theorem frameError_frame (s : State) :
    (frameError s).sig = s.sig ∧ (frameError s).pos = s.pos ∧ (frameError s).table = s.table ∧
      (frameError s).pending = s.pending := by
  unfold frameError; simp

@[simp] theorem timeoutExpires_frame (s : State) :
    (timeoutExpires s).sig = s.sig ∧ (timeoutExpires s).pos = s.pos ∧ (timeoutExpires s).table = s.table ∧
      (timeoutExpires s).pending = s.pending := by
  unfold timeoutExpires; simp

@[simp] theorem tripsAfterReset_frame (estop guard : Bool) (s : State) :
    (tripsAfterReset estop guard s).ring = s.ring ∧ (tripsAfterReset estop guard s).pos = s.pos ∧
      (tripsAfterReset estop guard s).table = s.table ∧
      (tripsAfterReset estop guard s).pending = s.pending := by
  unfold tripsAfterReset; simp

@[simp] theorem fullReset_frame (address : BitVec 7) (estop guard : Bool) (s : State) :
    (fullReset address estop guard s).pending = s.pending := by
  unfold fullReset
  simp [tripsAfterReset, State.inReset]

@[simp] theorem releaseBypass_frame (s : State) :
    (releaseBypass s).sig = s.sig ∧ (releaseBypass s).pos = s.pos ∧ (releaseBypass s).table = s.table ∧
      (releaseBypass s).pat = s.pat ∧ (releaseBypass s).fold = s.fold ∧ (releaseBypass s).plan = s.plan ∧
      (releaseBypass s).heat = s.heat ∧ (releaseBypass s).gov = s.gov ∧ (releaseBypass s).roll = s.roll ∧
      (releaseBypass s).react = s.react ∧ (releaseBypass s).mode = s.mode ∧
      (releaseBypass s).fault = s.fault ∧ (releaseBypass s).pending = s.pending := by
  unfold releaseBypass; split <;> simp

@[simp] theorem frameTaken_frame (cycle : BitVec 16) (e : Nat) (s : State) :
    (frameTaken cycle e s).sig = s.sig ∧ (frameTaken cycle e s).table = s.table ∧
      (frameTaken cycle e s).pending = s.pending := by
  unfold frameTaken; simp

@[simp] theorem frameErrors_frame (f : CycleFrame) (e : Nat) (s : State) :
    (frameErrors f e s).sig = s.sig ∧ (frameErrors f e s).pos = s.pos ∧
      (frameErrors f e s).table = s.table ∧ (frameErrors f e s).pending = s.pending := by
  unfold frameErrors; simp

@[simp] theorem warmStep_frame (e : Nat) (s : State) :
    (warmStep e s).ring = s.ring ∧ (warmStep e s).sig = s.sig ∧ (warmStep e s).pos = s.pos ∧
      (warmStep e s).table = s.table ∧ (warmStep e s).pending = s.pending := by
  unfold warmStep
  dsimp only
  (repeat' split) <;> simp

@[simp] theorem issueStep_frame (c : Serial8) (s : State) :
    (issueStep c s).ring = s.ring ∧ (issueStep c s).sig = s.sig ∧ (issueStep c s).pos = s.pos ∧
      (issueStep c s).table = s.table ∧ (issueStep c s).gov = s.gov ∧ (issueStep c s).mode = s.mode ∧
      (issueStep c s).pending = s.pending := by
  unfold issueStep
  dsimp only
  (repeat' split) <;> simp

@[simp] theorem strokeStep_frame (before : Option Stroke) (s : State) :
    (strokeStep before s).ring = s.ring ∧ (strokeStep before s).sig = s.sig ∧
      (strokeStep before s).pos = s.pos ∧ (strokeStep before s).table = s.table ∧
      (strokeStep before s).pat = s.pat ∧ (strokeStep before s).heat = s.heat ∧
      (strokeStep before s).gov = s.gov ∧ (strokeStep before s).roll = s.roll ∧
      (strokeStep before s).mode = s.mode ∧ (strokeStep before s).pending = s.pending := by
  unfold strokeStep; split <;> simp

@[simp] theorem drainStep_frame (s : State) :
    (drainStep s).ring = s.ring ∧ (drainStep s).sig = s.sig ∧ (drainStep s).pos = s.pos ∧
      (drainStep s).table = s.table ∧ (drainStep s).pending = s.pending := by
  unfold drainStep; split <;> simp

@[simp] theorem rollAdvance_frame (before : Roll) (e : Nat) (s : State) :
    (rollAdvance before e s).ring = s.ring ∧ (rollAdvance before e s).sig = s.sig ∧
      (rollAdvance before e s).pos = s.pos ∧ (rollAdvance before e s).table = s.table ∧
      (rollAdvance before e s).pat = s.pat ∧ (rollAdvance before e s).fold = s.fold ∧
      (rollAdvance before e s).plan = s.plan ∧ (rollAdvance before e s).heat = s.heat ∧
      (rollAdvance before e s).gov = s.gov ∧ (rollAdvance before e s).mode = s.mode ∧
      (rollAdvance before e s).pending = s.pending := by
  unfold rollAdvance
  dsimp only
  (repeat' split) <;> simp

@[simp] theorem haltStep_frame (before : Mode) (s : State) :
    (haltStep before s).ring = s.ring ∧ (haltStep before s).sig = s.sig ∧ (haltStep before s).pos = s.pos ∧
      (haltStep before s).table = s.table ∧ (haltStep before s).pat = s.pat ∧
      (haltStep before s).fold = s.fold ∧ (haltStep before s).plan = s.plan ∧
      (haltStep before s).gov = s.gov ∧ (haltStep before s).roll = s.roll ∧
      (haltStep before s).fault = s.fault ∧ (haltStep before s).pending = s.pending := by
  unfold haltStep; split <;> simp

@[simp] theorem blocksAct_frame (f : CycleFrame) (e : Nat) (old s : State) :
    (blocksAct f e old s).ring = s.ring ∧ (blocksAct f e old s).sig = s.sig ∧
      (blocksAct f e old s).pos = s.pos ∧ (blocksAct f e old s).table = s.table ∧
      (blocksAct f e old s).pending = s.pending := by
  unfold blocksAct
  dsimp only
  (repeat' split) <;> simp

@[simp] theorem useFrame_frame (f : CycleFrame) (e : Nat) (s : State) :
    (useFrame f e s).table = s.table ∧ (useFrame f e s).pending = s.pending := by
  unfold useFrame; simp

@[simp] theorem openSequence_frame (s : State) :
    (openSequence s).sig = s.sig ∧ (openSequence s).pos = s.pos ∧ (openSequence s).table = s.table ∧
      (openSequence s).pat = s.pat ∧ (openSequence s).fold = s.fold ∧ (openSequence s).plan = s.plan ∧
      (openSequence s).heat = s.heat ∧ (openSequence s).gov = s.gov ∧ (openSequence s).roll = s.roll ∧
      (openSequence s).mode = s.mode ∧ (openSequence s).pending = s.pending := by
  unfold openSequence; split <;> simp

@[simp] theorem refuseFrame_frame (f : CycleFrame) (s : State) :
    (refuseFrame f s).sig = s.sig ∧ (refuseFrame f s).pos = s.pos ∧ (refuseFrame f s).table = s.table ∧
      (refuseFrame f s).pending = s.pending := by
  unfold refuseFrame; simp

@[simp] theorem takeCycle_frame (f : CycleFrame) (s : State) :
    (takeCycle f s).table = s.table ∧ (takeCycle f s).pending = s.pending := by
  unfold takeCycle
  dsimp only
  (repeat' split) <;> simp

@[simp] theorem strokeCompletes_frame (status : BladeStatus) (done : Serial8) (s : State) :
    (strokeCompletes status done s).ring = s.ring ∧ (strokeCompletes status done s).sig = s.sig ∧
      (strokeCompletes status done s).pos = s.pos ∧ (strokeCompletes status done s).table = s.table ∧
      (strokeCompletes status done s).pending = s.pending := by
  unfold strokeCompletes; split <;> simp

@[simp] theorem strokeTimesOut_frame (s : State) :
    (strokeTimesOut s).ring = s.ring ∧ (strokeTimesOut s).sig = s.sig ∧ (strokeTimesOut s).pos = s.pos ∧
      (strokeTimesOut s).table = s.table ∧ (strokeTimesOut s).pending = s.pending := by
  unfold strokeTimesOut; split <;> simp

@[simp] theorem pasteConfirmed_frame (paste cut : Serial8) (s : State) :
    (pasteConfirmed paste cut s).ring = s.ring ∧ (pasteConfirmed paste cut s).sig = s.sig ∧
      (pasteConfirmed paste cut s).pos = s.pos ∧ (pasteConfirmed paste cut s).table = s.table ∧
      (pasteConfirmed paste cut s).pending = s.pending := by
  unfold pasteConfirmed; split <;> simp

@[simp] theorem pasteTimesOut_frame (s : State) :
    (pasteTimesOut s).ring = s.ring ∧ (pasteTimesOut s).sig = s.sig ∧ (pasteTimesOut s).pos = s.pos ∧
      (pasteTimesOut s).table = s.table ∧ (pasteTimesOut s).pending = s.pending := by
  unfold pasteTimesOut; split <;> simp

@[simp] theorem cutConfirmed_frame (paste cut : Serial8) (s : State) :
    (cutConfirmed paste cut s).ring = s.ring ∧ (cutConfirmed paste cut s).sig = s.sig ∧
      (cutConfirmed paste cut s).pos = s.pos ∧ (cutConfirmed paste cut s).table = s.table ∧
      (cutConfirmed paste cut s).pending = s.pending := by
  unfold cutConfirmed; split <;> simp

@[simp] theorem cutTimesOut_frame (s : State) :
    (cutTimesOut s).ring = s.ring ∧ (cutTimesOut s).sig = s.sig ∧ (cutTimesOut s).pos = s.pos ∧
      (cutTimesOut s).table = s.table ∧ (cutTimesOut s).pending = s.pending := by
  unfold cutTimesOut; split <;> simp

@[simp] theorem settleEnds_frame (e : Nat) (s : State) :
    (settleEnds e s).ring = s.ring ∧ (settleEnds e s).sig = s.sig ∧ (settleEnds e s).pos = s.pos ∧
      (settleEnds e s).table = s.table ∧ (settleEnds e s).pending = s.pending := by
  unfold settleEnds; split <;> simp

@[simp] theorem matchTimesOut_frame (e : Nat) (s : State) :
    (matchTimesOut e s).ring = s.ring ∧ (matchTimesOut e s).sig = s.sig ∧ (matchTimesOut e s).pos = s.pos ∧
      (matchTimesOut e s).table = s.table ∧ (matchTimesOut e s).pending = s.pending := by
  unfold matchTimesOut; split <;> simp

@[simp] theorem purgeEnds_frame (e : Nat) (s : State) :
    (purgeEnds e s).ring = s.ring ∧ (purgeEnds e s).sig = s.sig ∧ (purgeEnds e s).pos = s.pos ∧
      (purgeEnds e s).table = s.table ∧ (purgeEnds e s).pending = s.pending := by
  unfold purgeEnds; repeat' split
  all_goals simp

@[simp] theorem warmupFinishes_frame (e : Nat) (s : State) :
    (warmupFinishes e s).ring = s.ring ∧ (warmupFinishes e s).sig = s.sig ∧
      (warmupFinishes e s).pos = s.pos ∧ (warmupFinishes e s).table = s.table ∧
      (warmupFinishes e s).pending = s.pending := by
  unfold warmupFinishes; split <;> simp

@[simp] theorem warmupTimesOut_frame (e : Nat) (s : State) :
    (warmupTimesOut e s).ring = s.ring ∧ (warmupTimesOut e s).sig = s.sig ∧
      (warmupTimesOut e s).pos = s.pos ∧ (warmupTimesOut e s).table = s.table ∧
      (warmupTimesOut e s).pending = s.pending := by
  unfold warmupTimesOut; split <;> simp

@[simp] theorem phaseComes_frame (p : StandbyPhase) (e : Nat) (s : State) :
    (phaseComes p e s).ring = s.ring ∧ (phaseComes p e s).sig = s.sig ∧ (phaseComes p e s).pos = s.pos ∧
      (phaseComes p e s).table = s.table ∧ (phaseComes p e s).pending = s.pending := by
  unfold phaseComes
  dsimp only
  (repeat' split) <;> simp

@[simp] theorem signalLost_frame (i : Nat) (s : State) :
    (signalLost i s).ring = s.ring ∧ (signalLost i s).pos = s.pos ∧ (signalLost i s).table = s.table ∧
      (signalLost i s).pending = s.pending := by
  unfold signalLost
  dsimp only
  (repeat' split) <;> simp

@[simp] theorem errWindowEnds_frame (e : Nat) (s : State) :
    (errWindowEnds e s).sig = s.sig ∧ (errWindowEnds e s).pos = s.pos ∧
      (errWindowEnds e s).table = s.table ∧ (errWindowEnds e s).pending = s.pending := by
  unfold errWindowEnds; split <;> simp

@[simp] theorem waitingWindow_frame (s : State) :
    (waitingWindow s).ring = s.ring ∧ (waitingWindow s).sig = s.sig ∧ (waitingWindow s).pos = s.pos ∧
      (waitingWindow s).table = s.table ∧ (waitingWindow s).pending = s.pending := by
  unfold waitingWindow; split <;> simp

@[simp] theorem noticeEnds_frame (s : State) :
    (noticeEnds s).sig = s.sig ∧ (noticeEnds s).pos = s.pos ∧ (noticeEnds s).table = s.table ∧
      (noticeEnds s).pat = s.pat ∧ (noticeEnds s).fold = s.fold ∧ (noticeEnds s).plan = s.plan ∧
      (noticeEnds s).heat = s.heat ∧ (noticeEnds s).gov = s.gov ∧ (noticeEnds s).roll = s.roll ∧
      (noticeEnds s).react = s.react ∧ (noticeEnds s).mode = s.mode ∧ (noticeEnds s).fault = s.fault ∧
      (noticeEnds s).pending = s.pending := by
  unfold noticeEnds; split <;> simp

end Sys2Proof.Machine
end

