-- ==== Sys2Proof/Laws/Conditions.lean ====
section
/-! SUPPORT. Condition marks and group flags: what each operation can do to them. -/
set_option Elab.async false
namespace Sys2Proof.Machine

/-! ### Marks -/

theorem withMark_getLsbD (c d : Cond) (b : Bool) (m : BitVec 16) :
    (withMark c b m).getLsbD (condNum d) = if d = c then b else m.getLsbD (condNum d) := by
  cases b <;> cases c <;> cases d <;> simp [withMark, condBit, condNum]

@[simp] theorem cond_setCond (c d : Cond) (b : Bool) (s : State) :
    (setCond c b s).cond d = if d = c then b else s.cond d := by
  simp [State.cond, setCond, withMark_getLsbD]

theorem recordFault_marks (detail : Nat) (subject : Subject) (s : State) :
    (recordFault detail subject s).react = { s.react with marks := withMark .faultLatched true s.react.marks } := rfl

@[simp] theorem cond_recordFault (detail : Nat) (subject : Subject) (d : Cond) (s : State) :
    (recordFault detail subject s).cond d = if d = .faultLatched then true else s.cond d := by
  simp [State.cond, recordFault_marks, withMark_getLsbD]

/-- A state with the same REACT has the same conditions. -/
theorem cond_of_react {s t : State} (h : t.react = s.react) (c : Cond) : t.cond c = s.cond c := by
  simp [State.cond, h]

@[simp] theorem cond_raiseCond (c : Cond) (detail : Nat) (subject : Subject) (d : Cond) (s : State) (h : d ≠ .faultLatched) :
    (raiseCond c detail subject s).cond d = if d = c then true else s.cond d := by
  unfold raiseCond
  split
  · split
    · subst d; assumption
    · rfl
  · simp [h]

@[simp] theorem cond_judgeCond (c : Cond) (found : Bool) (detail : Nat) (subject : Subject) (d : Cond) (s : State)
    (h : d ≠ .faultLatched) :
    (judgeCond c found detail subject s).cond d = if d = c then found else s.cond d := by
  unfold judgeCond
  cases found <;> simp [h]

/-! ### Group flags -/

/-- No flag of the first state is clear in the second. -/
def flagsGrow (s t : State) : Prop := ∀ i, s.fault.flags.getLsbD i = true → t.fault.flags.getLsbD i = true

theorem flagsGrow_refl (s : State) : flagsGrow s s := fun _ h => h

theorem flagsGrow_trans {s t u : State} (h : flagsGrow s t) (k : flagsGrow t u) : flagsGrow s u :=
  fun i x => k i (h i x)

theorem flagsGrow_of_fault {s t : State} (h : t.fault = s.fault) : flagsGrow s t := by
  intro i x; rw [h]; exact x

theorem recordFault_flags (detail : Nat) (subject : Subject) (s : State) :
    ∃ b, (recordFault detail subject s).fault.flags
      = s.fault.flags ||| groupBit (detail / 100) ||| (if b = true then groupBit 1 else 0) := by
  unfold recordFault setCond
  dsimp only
  split
  · exact ⟨true, by simp⟩
  · exact ⟨false, by simp⟩

theorem recordFault_grow (detail : Nat) (subject : Subject) (s : State) :
    flagsGrow s (recordFault detail subject s) := by
  intro i h
  obtain ⟨b, hb⟩ := recordFault_flags detail subject s
  rw [hb]
  simp [h]

/-- A recorded fault sets its group's flag (R213). -/
theorem recordFault_sets (detail : Nat) (subject : Subject) (s : State) (i : Nat)
    (h : (groupBit (detail / 100)).getLsbD i = true) : (recordFault detail subject s).fault.flags.getLsbD i = true := by
  obtain ⟨b, hb⟩ := recordFault_flags detail subject s
  rw [hb]
  simp [h]

end Sys2Proof.Machine
end

