-- ==== Sys2Proof/Laws/Settle.lean ====
section
/-! SUPPORT. What REACT's judging of an event, and the hand-over and mode entries it can bring about, do to the
state: said once, as a relation between the state before and the state after. -/
set_option Elab.async false
namespace Sys2Proof.Machine

/-- A reaction entry's written fields: its state and its remaining cycles apart (R182). -/
def bare (e : ReactEntry) : ReactEntry := { e with state := .idle, remaining := 0 }

/-- One set-map record is still there after, with the reject reasons it had. -/
def recordStays (x : SetRec) (l : List SetRec) : Prop :=
  ∃ y ∈ l, y.serial = x.serial ∧ ∀ i, x.rejects.getLsbD i = true → y.rejects.getLsbD i = true

/-- What hand-over, the mode entries a reaction asks for, and REACT's judging leave, from `s` to `t`. -/
structure Evolves (s t : State) : Prop where
  flags : flagsGrow s t
  conds : ∀ c, c ≠ .planEmpty → c ≠ .pressureLow → c ≠ .faultLatched → t.cond c = s.cond c
  fold : t.fold = { s.fold with seg := t.fold.seg }
  heat : t.heat = { s.heat with classes := t.heat.classes }
  roll : s.roll.state ≠ .armed → s.roll.state ≠ .prepare → t.roll = s.roll
  records : ∀ x ∈ s.plan.setMap, recordStays x t.plan.setMap
  mode : t.mode = s.mode ∧ t.gov = s.gov ∨
    moving s ∧ (∃ i, t.mode = { mode := .halting, step := 0, cause := .reaction i }) ∧ t.gov = govZero s.gov ∨
    (s.mode.mode = .run ∨ s.mode.mode = .drain) ∧ t.mode = { s.mode with mode := .hold } ∧ t.gov = s.gov
  entries : t.react.entries.map bare = s.react.entries.map bare
  ring : t.ring = s.ring
  sig : t.sig = s.sig
  pos : t.pos = s.pos
  table : t.table = s.table

theorem recordStays_refl {x : SetRec} {l : List SetRec} (h : x ∈ l) : recordStays x l := ⟨x, h, rfl, fun _ h => h⟩

namespace Evolves

theorem refl (s : State) : Evolves s s where
  flags := flagsGrow_refl s
  conds _ _ _ _ := rfl
  fold := rfl
  heat := rfl
  roll _ _ := rfl
  records _ h := recordStays_refl h
  mode := .inl ⟨rfl, rfl⟩
  entries := rfl
  ring := rfl
  sig := rfl
  pos := rfl
  table := rfl

theorem trans {s t u : State} (h : Evolves s t) (k : Evolves t u) : Evolves s u where
  flags := flagsGrow_trans h.flags k.flags
  conds c a b d := (k.conds c a b d).trans (h.conds c a b d)
  fold := by rw [k.fold, h.fold]
  heat := by rw [k.heat, h.heat]
  roll a b := by
    have e := h.roll a b
    rw [k.roll (by rw [e]; exact a) (by rw [e]; exact b), e]
  records x hx := by
    obtain ⟨y, hy, e, f⟩ := h.records x hx
    obtain ⟨z, hz, e', f'⟩ := k.records y hy
    exact ⟨z, hz, e'.trans e, fun i hi => f' i (f i hi)⟩
  mode := by
    rcases h.mode with ⟨m, g⟩ | ⟨m, ⟨i, x⟩, g⟩ | ⟨m, x, g⟩
    · rcases k.mode with ⟨m', g'⟩ | ⟨m', x', g'⟩ | ⟨m', x', g'⟩
      · exact .inl ⟨m'.trans m, g'.trans g⟩
      · exact .inr (.inl ⟨by unfold moving at *; rwa [← m], x', by rw [g', g]⟩)
      · exact .inr (.inr ⟨by rwa [← m], by rw [x', m], by rw [g', g]⟩)
    · rcases k.mode with ⟨m', g'⟩ | ⟨m', x', g'⟩ | ⟨m', x', g'⟩
      · exact .inr (.inl ⟨m, ⟨i, m'.trans x⟩, g'.trans g⟩)
      · exact absurd (by rw [x] : t.mode.mode = .halting) m'.2
      · rw [x] at m'; simp at m'
    · rcases k.mode with ⟨m', g'⟩ | ⟨m', x', g'⟩ | ⟨m', x', g'⟩
      · exact .inr (.inr ⟨m, m'.trans x, g'.trans g⟩)
      · refine .inr (.inl ⟨?_, x', by rw [g', g]⟩)
        unfold moving
        rcases m with m | m <;> simp [m]
      · rw [x] at m'; simp at m'
  entries := k.entries.trans h.entries
  ring := k.ring.trans h.ring
  sig := k.sig.trans h.sig
  pos := k.pos.trans h.pos
  table := k.table.trans h.table

end Evolves

/-! ### Operations that only touch plan, slots, classes and faults -/

/-- A change of the plan's movable and anchored records and use counts alone. -/
theorem evolves_of_plan {s t : State} (hf : flagsGrow s t) (hm : t.plan.setMap = s.plan.setMap)
    (hc : ∀ c, c ≠ .faultLatched → t.cond c = s.cond c) (he : t.react.entries = s.react.entries)
    (h1 : t.fold = s.fold) (h2 : t.heat = { s.heat with classes := t.heat.classes }) (h3 : t.roll = s.roll)
    (h4 : t.mode = s.mode) (h5 : t.gov = s.gov) (h6 : t.ring = s.ring) (h7 : t.sig = s.sig) (h8 : t.pos = s.pos)
    (h9 : t.table = s.table) : Evolves s t where
  flags := hf
  conds c _ _ d := hc c d
  fold := by rw [h1]
  heat := h2
  roll _ _ := h3
  records x hx := recordStays_refl (by rw [hm]; exact hx)
  mode := .inl ⟨h4, h5⟩
  entries := by rw [he]
  ring := h6
  sig := h7
  pos := h8
  table := h9

@[simp] theorem recordFault_entries (detail : Nat) (subject : Subject) (s : State) :
    (recordFault detail subject s).react.entries = s.react.entries := rfl

@[simp] theorem setCond_entries (c : Cond) (b : Bool) (s : State) : (setCond c b s).react.entries = s.react.entries := rfl

theorem evolves_recordFault (detail : Nat) (subject : Subject) (s : State) : Evolves s (recordFault detail subject s) :=
  evolves_of_plan (recordFault_grow detail subject s) (by simp) (by intro c h; simp [h]) (by simp) (by simp) (by simp)
    (by simp) (by simp) (by simp) (by simp) (by simp) (by simp) (by simp)

theorem evolves_setCond (c : Cond) (b : Bool) (s : State) (h : c = .planEmpty ∨ c = .pressureLow) :
    Evolves s (setCond c b s) where
  flags := flagsGrow_of_fault (by simp)
  conds d h1 h2 _ := by
    rw [cond_setCond]
    rcases h with h | h <;> subst h
    · simp [h1]
    · simp [h2]
  fold := by simp
  heat := by simp
  roll _ _ := by simp
  records x hx := recordStays_refl (by simpa using hx)
  mode := .inl ⟨by simp, by simp⟩
  entries := by simp
  ring := by simp
  sig := by simp
  pos := by simp
  table := by simp

/-- An operation that touches the plan's records alone. -/
theorem evolves_plan_only {s t : State} (hm : t.plan.setMap = s.plan.setMap) (h0 : t.react = s.react)
    (hft : t.fault = s.fault) (h1 : t.fold = s.fold) (h2 : t.heat = s.heat) (h3 : t.roll = s.roll)
    (h4 : t.mode = s.mode) (h5 : t.gov = s.gov) (h6 : t.ring = s.ring) (h7 : t.sig = s.sig) (h8 : t.pos = s.pos)
    (h9 : t.table = s.table) : Evolves s t :=
  evolves_of_plan (flagsGrow_of_fault hft) hm (fun c _ => cond_of_react h0 c) (by rw [h0]) h1 (by rw [h2]) h3 h4 h5 h6
    h7 h8 h9

@[simp] theorem withSegs_setMap (segs : List Seg) (s : State) : (withSegs segs s).plan.setMap = s.plan.setMap := rfl

@[simp] theorem newSeg_setMap (kind : SegKind) (start len : Nat) (anchored : Bool) (s : State) :
    (newSeg kind start len anchored s).2.plan.setMap = s.plan.setMap := rfl

@[simp] theorem newSegs_setMap (kind : SegKind) (anchored : Bool) (l : List (Nat × Nat)) (s : State) :
    (newSegs kind anchored l s).2.plan.setMap = s.plan.setMap := by
  induction l generalizing s with
  | nil => rfl
  | cons x t ih => simp [newSegs, ih]

@[simp] theorem replanWith_setMap (movable anchored : List Seg) (s : State) :
    (replanWith movable anchored s).plan.setMap = s.plan.setMap := by simp [replanWith]

@[simp] theorem replan_setMap (s : State) : (replan s).plan.setMap = s.plan.setMap := by simp [replan]

@[simp] theorem appendSeg_setMap (kind : SegKind) (len : Nat) (s : State) :
    (appendSeg kind len s).plan.setMap = s.plan.setMap := by simp [appendSeg]

@[simp] theorem releaseWindow_setMap (s : State) : (releaseWindow s).plan.setMap = s.plan.setMap := by
  simp [releaseWindow]

theorem placeWindow_setMap (s : State) : (placeWindow s).2.plan.setMap = s.plan.setMap := by
  unfold placeWindow
  dsimp only
  split
  · simp
  · split <;> simp

theorem evolves_replan (s : State) : Evolves s (replan s) :=
  evolves_plan_only (by simp) (by simp) (by simp) (by simp) (by simp) (by simp) (by simp) (by simp) (by simp) (by simp)
    (by simp) (by simp)

theorem evolves_newSeg (kind : SegKind) (start len : Nat) (anchored : Bool) (s : State) :
    Evolves s (newSeg kind start len anchored s).2 :=
  evolves_plan_only (by simp) (by simp) (by simp) (by simp) (by simp) (by simp) (by simp) (by simp) (by simp) (by simp)
    (by simp) (by simp)

theorem evolves_withSegs (segs : List Seg) (s : State) : Evolves s (withSegs segs s) :=
  evolves_plan_only (by simp) (by simp) (by simp) (by simp) (by simp) (by simp) (by simp) (by simp) (by simp) (by simp)
    (by simp) (by simp)

theorem evolves_lowerUse (id : PanelId) (s : State) : Evolves s (lowerUse id s) :=
  evolves_of_plan (flagsGrow_of_fault (by simp)) (by simp) (fun c _ => cond_of_react (by simp) c) (by simp) (by simp)
    rfl (by simp) (by simp) (by simp) (by simp) (by simp) (by simp) (by simp)

theorem evolves_cancelAt (i : Nat) (id : PanelId) (s : State) : Evolves s (cancelAt i id s) :=
  (evolves_withSegs _ _).trans (evolves_lowerUse _ _)

theorem evolves_trimLoop (fuel : Nat) (s : State) : Evolves s (trimLoop fuel s) := by
  induction fuel generalizing s with
  | zero => exact .refl s
  | succ n ih =>
    unfold trimLoop
    split
    · exact .refl s
    · split
      · exact ((evolves_cancelAt _ _ _).trans (evolves_recordFault _ _ _)).trans (ih _)
      · split
        · exact (evolves_withSegs _ _).trans (ih _)
        · exact .refl s

theorem evolves_trimPlan (s : State) : Evolves s (trimPlan s) := evolves_trimLoop _ s

/-! ### Hand-over -/

theorem recordStays_append {x : SetRec} {l : List SetRec} (m : List SetRec) (h : recordStays x l) :
    recordStays x (l ++ m) := by
  obtain ⟨y, hy, r⟩ := h
  exact ⟨y, List.mem_append_left _ hy, r⟩

theorem evolves_takePanel (g : Seg) (id : PanelId) (s : State) : Evolves s (takePanel g id s) := by
  unfold takePanel
  refine Evolves.trans (t := { s with plan := _, fold := _ }) ?_ (evolves_setCond _ _ _ (.inl rfl))
  exact
    { flags := flagsGrow_of_fault rfl, conds := fun _ _ _ _ => rfl, fold := rfl, heat := rfl, roll := fun _ _ => rfl,
      records := fun x hx => recordStays_append _ (recordStays_refl hx), mode := .inl ⟨rfl, rfl⟩,
      entries := rfl, ring := rfl, sig := rfl, pos := rfl, table := rfl }

theorem mem_of_getLast? {α : Type} {l : List α} {a x : α} (h : l.getLast? = some a) (hx : x ∈ l) :
    x ∈ l.dropLast ∨ x = a := by
  have e : l = l.dropLast ++ [a] := by
    have hne : l ≠ [] := by intro h0; simp [h0] at h
    have : l.getLast hne = a := by simpa [List.getLast?_eq_some_getLast hne] using h
    rw [← this]; exact (List.dropLast_concat_getLast hne).symm
  rw [e] at hx
  simpa using hx

theorem evolves_takeWaste (g : Seg) (s : State) : Evolves s (takeWaste g s) := by
  refine
    { flags := flagsGrow_of_fault rfl, conds := fun _ _ _ _ => rfl, fold := rfl, heat := rfl, roll := fun _ _ => rfl,
      records := ?_, mode := .inl ⟨rfl, rfl⟩, entries := rfl, ring := rfl, sig := rfl,
      pos := rfl, table := rfl }
  intro x hx
  unfold takeWaste
  dsimp only
  cases h : s.plan.setMap.getLast? with
  | none => exact recordStays_append _ (recordStays_refl hx)
  | some l =>
    dsimp only
    split
    · exact recordStays_append _ (recordStays_refl hx)
    · rcases mem_of_getLast? h hx with h' | h'
      · exact recordStays_append _ (recordStays_refl h')
      · subst h'
        refine ⟨absorbed x _ _, List.mem_append_right _ (List.mem_singleton.mpr rfl), rfl, fun _ h => h⟩

theorem evolves_takeSeg (g : Seg) (s : State) : Evolves s (takeSeg g s) := by
  unfold takeSeg
  split
  · exact evolves_takePanel _ _ _
  · exact evolves_takeWaste _ _

theorem evolves_floatPanel (g : Seg) (s : State) : Evolves s (floatPanel g s) :=
  (((evolves_newSeg _ _ _ _ _).trans (evolves_takeSeg _ _)).trans (evolves_replan _)).trans (evolves_trimPlan _)

theorem evolves_takeIdleGap (s : State) : Evolves s (takeIdleGap s) := by
  unfold takeIdleGap
  dsimp only
  split
  · exact ((evolves_newSeg _ _ _ _ _).trans (evolves_takeSeg _ _)).trans (evolves_setCond _ _ _ (.inl rfl))
  · exact (evolves_newSeg _ _ _ _ _).trans (evolves_takeSeg _ _)

theorem evolves_handStep {s t : State} (h : handStep s = some t) : Evolves s t := by
  unfold handStep at h
  split at h
  · cases h
  · split at h
    · split at h
      · cases h; exact evolves_takeIdleGap s
      · cases h
    · split at h
      · cases h
      · split at h
        · cases h; exact (evolves_withSegs _ _).trans (evolves_takeSeg _ _)
        · split at h
          · cases h; exact evolves_floatPanel _ _
          · cases h

theorem evolves_handLoop (fuel : Nat) (s : State) : Evolves s (handLoop fuel s) := by
  induction fuel generalizing s with
  | zero => exact .refl s
  | succ n ih =>
    unfold handLoop
    split
    · rename_i t h
      exact (evolves_handStep h).trans (ih t)
    · exact .refl s

/-- An operation that in ARMED or PREPARE touches the plan's records and ROLL alone. -/
theorem evolves_roll {s t : State} (hr : s.roll.state ≠ .armed → s.roll.state ≠ .prepare → t.roll = s.roll)
    (hm : t.plan.setMap = s.plan.setMap) (h0 : t.react = s.react) (hft : t.fault = s.fault) (h1 : t.fold = s.fold)
    (h2 : t.heat = s.heat) (h4 : t.mode = s.mode) (h5 : t.gov = s.gov) (h6 : t.ring = s.ring) (h7 : t.sig = s.sig)
    (h8 : t.pos = s.pos) (h9 : t.table = s.table) : Evolves s t where
  flags := flagsGrow_of_fault hft
  conds c _ _ _ := cond_of_react h0 c
  fold := by rw [h1]
  heat := by rw [h2]
  roll := hr
  records x hx := recordStays_refl (by rw [hm]; exact hx)
  mode := .inl ⟨h4, h5⟩
  entries := by rw [h0]
  ring := h6
  sig := h7
  pos := h8
  table := h9

@[simp] theorem requestWindow_setMap (s : State) : (requestWindow s).plan.setMap = s.plan.setMap := by
  unfold requestWindow reserveWindow
  dsimp only
  split
  · rename_i h
    split at h
    · cases h
    · have e := Option.some.inj h
      have k := placeWindow_setMap s
      rw [e] at k
      simpa using k
  · simp

@[simp] theorem dropWindow_setMap (s : State) : (dropWindow s).plan.setMap = s.plan.setMap := by
  unfold dropWindow
  split <;> simp

theorem evolves_windowPassed (s : State) : Evolves s (windowPassed s) := by
  unfold windowPassed
  split
  · rename_i h
    exact evolves_roll (fun a _ => absurd h.1 a) (by simp) (by simp) (by simp) (by simp) (by simp) (by simp) (by simp)
      (by simp) (by simp) (by simp) (by simp)
  · exact .refl s

/-- The hand-over (R71 to R73). -/
theorem evolves_handOver (s : State) : Evolves s (handOver s) := by
  unfold handOver
  split
  · exact (evolves_handLoop _ _).trans (evolves_windowPassed _)
  · exact .refl s

/-! ### Mode entries -/

theorem evolves_rollHold (s : State) : Evolves s (rollHold s) := by
  refine evolves_roll ?_ ?_ (by simp) (by simp) (by simp) (by simp) (by simp) (by simp) (by simp) (by simp) (by simp)
    (by simp)
  · intro _ h
    unfold rollHold
    split
    · contradiction
    · rfl
  · unfold rollHold
    split <;> simp

theorem evolves_rollHalting (s : State) : Evolves s (rollHalting s) := by
  refine evolves_roll ?_ ?_ (by simp) (by simp) (by simp) (by simp) (by simp) (by simp) (by simp) (by simp) (by simp)
    (by simp)
  · intro h h'
    unfold rollHalting
    split <;> first | contradiction | rfl
  · unfold rollHalting setSeq
    split <;> simp

theorem leaveMode_moving (s : State) (h : s.mode.mode ≠ .halt) : Evolves s (leaveMode s) := by
  unfold leaveMode
  split
  · exact evolves_setCond _ _ _ (.inl rfl)
  · contradiction
  · exact .refl s

theorem marked_rejects (r : Reject) (x : SetRec) (i : Nat) (h : x.rejects.getLsbD i = true) :
    (marked r x).rejects.getLsbD i = true := by
  unfold marked
  split
  · exact h
  · simp [h]

theorem marked_serial (r : Reject) (x : SetRec) : (marked r x).serial = x.serial := by
  unfold marked; split <;> rfl

theorem evolves_modRec (serial : SegSerial) (f : SetRec → SetRec) (s : State) (hs : ∀ x, (f x).serial = x.serial)
    (hf : ∀ x i, x.rejects.getLsbD i = true → (f x).rejects.getLsbD i = true) : Evolves s (modRec serial f s) where
  flags := flagsGrow_of_fault rfl
  conds _ _ _ _ := rfl
  fold := rfl
  heat := rfl
  roll _ _ := rfl
  records x hx := by
    refine ⟨if x.serial = serial then f x else x, List.mem_map_of_mem hx, ?_, ?_⟩
    · split <;> simp [hs]
    · intro i hi
      split
      · exact hf x i hi
      · exact hi
  mode := .inl ⟨rfl, rfl⟩
  entries := rfl
  ring := rfl
  sig := rfl
  pos := rfl
  table := rfl

theorem evolves_abortWalk (r : Reject) (s : State) : Evolves s (abortWalk r s) := by
  unfold abortWalk
  split
  · exact .refl s
  · split
    · exact .refl s
    · split
      · refine Evolves.trans (t := setWalk _ s) ?_ (evolves_modRec _ _ _ (fun x => marked_serial _ x) ?_)
        · exact
            { flags := flagsGrow_of_fault rfl, conds := fun _ _ _ _ => rfl, fold := rfl, heat := rfl,
              roll := fun _ _ => rfl, records := fun x hx => recordStays_refl hx, mode := .inl ⟨rfl, rfl⟩,
              entries := rfl, ring := rfl, sig := rfl, pos := rfl, table := rfl }
        · intro x i hi; exact marked_rejects r x i hi
      · exact .refl s

/-- The entry into HALTING leaves everything but the mode and the speed commands as the hand-over does. -/
structure Halts (cause : HaltCause) (s t : State) : Prop where
  mode : t.mode = { mode := .halting, step := 0, cause := cause }
  gov : t.gov = govZero s.gov
  rest : Evolves s { t with mode := s.mode, gov := s.gov }

theorem evolves_setMode_gov {s t : State} (h : Evolves s t) (m : ModeCtl) (g : Gov) : Evolves { s with mode := m, gov := g } { t with mode := m, gov := g } where
  flags := h.flags
  conds := h.conds
  fold := h.fold
  heat := h.heat
  roll := h.roll
  records := h.records
  mode := .inl ⟨rfl, rfl⟩
  entries := h.entries
  ring := h.ring
  sig := h.sig
  pos := h.pos
  table := h.table

/-- A change of mode and speed commands alone. -/
theorem evolves_forget {s t : State} {m : ModeCtl} {g : Gov} (h : Evolves { s with mode := m, gov := g } t) :
    Evolves s { t with mode := s.mode, gov := s.gov } where
  flags := h.flags
  conds := h.conds
  fold := h.fold
  heat := h.heat
  roll := h.roll
  records := h.records
  mode := .inl ⟨rfl, rfl⟩
  entries := h.entries
  ring := h.ring
  sig := h.sig
  pos := h.pos
  table := h.table

@[simp] theorem leaveMode_gov_mode (s : State) : (leaveMode s).gov = s.gov ∧ (leaveMode s).mode = s.mode := by simp

theorem enterHalting_halts (cause : HaltCause) (s : State) (h : moving s) : Halts cause s (enterHalting cause s) := by
  unfold enterHalting
  rw [if_neg (fun h' => h'.elim h.1 h.2)]
  dsimp only
  have key : ∀ u, Evolves { s with mode := { mode := .halting, step := 0, cause := cause }, gov := govZero s.gov } u →
      u.mode = { mode := .halting, step := 0, cause := cause } → u.gov = govZero s.gov → Halts cause s u :=
    fun u k a b => ⟨a, b, evolves_forget k⟩
  have h1 : Evolves { s with mode := { mode := .halting, step := 0, cause := cause }, gov := govZero s.gov }
      { leaveMode s with mode := { mode := .halting, step := 0, cause := cause }, gov := govZero s.gov } :=
    evolves_setMode_gov (leaveMode_moving s h.1) _ _
  have h2 := h1.trans (evolves_abortWalk .halted _)
  have e : { abortWalk .halted { leaveMode s with mode := { mode := .halting, step := 0, cause := cause } } with
        gov := govZero (abortWalk .halted { leaveMode s with
          mode := { mode := .halting, step := 0, cause := cause } }).gov } =
      abortWalk .halted { leaveMode s with mode := { mode := .halting, step := 0, cause := cause },
                                            gov := govZero s.gov } := by
    unfold abortWalk
    simp only
    split
    · simp
    · split
      · simp
      · split
        · simp [modRec, setWalk]
        · simp
  rw [e]
  have h3 := h2.trans (evolves_rollHalting _)
  split
  · exact key _ (h3.trans (evolves_handOver _)) (by simp) (by simp)
  · exact key _ h3 (by simp) (by simp)

/-- The entry into HALTING by a reaction, as the relation puts it. -/
theorem evolves_of_halts {i : Nat} {s t : State} (h : Halts (.reaction i) s t) (m : moving s) : Evolves s t where
  flags := h.rest.flags
  conds := h.rest.conds
  fold := h.rest.fold
  heat := h.rest.heat
  roll := h.rest.roll
  records := h.rest.records
  mode := .inr (.inl ⟨m, ⟨i, h.mode⟩, h.gov⟩)
  entries := h.rest.entries
  ring := h.rest.ring
  sig := h.rest.sig
  pos := h.rest.pos
  table := h.rest.table

theorem evolves_enterHalting (i : Nat) (s : State) : Evolves s (enterHalting (.reaction i) s) := by
  by_cases h : moving s
  · exact evolves_of_halts (enterHalting_halts _ s h) h
  · have e : s.mode.mode = .halt ∨ s.mode.mode = .halting := by
      unfold moving at h
      cases k : s.mode.mode <;> simp_all
    unfold enterHalting
    rw [if_pos e]
    exact .refl s

theorem evolves_enterHold (s : State) (h : s.mode.mode = .run ∨ s.mode.mode = .drain) : Evolves s (enterHold s) := by
  have hh : s.mode.mode ≠ .halt := by rcases h with h | h <;> simp [h]
  have h1 := leaveMode_moving s hh
  have h2 : Evolves s (setMode .hold (leaveMode s)) :=
    { flags := h1.flags, conds := h1.conds, fold := h1.fold, heat := h1.heat, roll := h1.roll, records := h1.records,
      mode := .inr (.inr ⟨h, by simp, by simp⟩), entries := h1.entries, ring := h1.ring, sig := h1.sig,
      pos := h1.pos, table := h1.table }
  exact h2.trans (evolves_rollHold _)

theorem evolves_askMode (i : Nat) (s : State) : Evolves s (askMode i s) := by
  unfold askMode
  split
  · exact .refl s
  · exact evolves_enterHalting i s
  · split
    · rename_i h
      exact evolves_enterHold s h
    · exact .refl s

/-- A change of reaction states and remaining cycles alone. -/
theorem evolves_entries {s : State} (es : List ReactEntry) (h : es.map bare = s.react.entries.map bare) :
    Evolves s { s with react := { s.react with entries := es } } where
  flags := flagsGrow_of_fault rfl
  conds _ _ _ _ := rfl
  fold := rfl
  heat := rfl
  roll _ _ := rfl
  records _ hx := recordStays_refl hx
  mode := .inl ⟨rfl, rfl⟩
  entries := h
  ring := rfl
  sig := rfl
  pos := rfl
  table := rfl

theorem bare_modify (f : ReactEntry → ReactEntry) (hf : ∀ e, bare (f e) = bare e) :
    ∀ (l : List ReactEntry) (i : Nat), (l.modify i f).map bare = l.map bare
  | [], i => by cases i <;> rfl
  | a :: l, 0 => by simp [hf]
  | a :: l, i + 1 => by simpa using bare_modify f hf l i

theorem evolves_modReaction (i : Nat) (f : ReactEntry → ReactEntry) (hf : ∀ e, bare (f e) = bare e) (s : State) :
    Evolves s (modReaction i f s) := evolves_entries _ (bare_modify f hf _ i)

theorem evolves_mapReactions (f : ReactEntry → ReactEntry) (hf : ∀ e, bare (f e) = bare e) (s : State) :
    Evolves s (mapReactions f s) := by
  refine evolves_entries _ ?_
  rw [List.map_map]
  exact List.map_congr_left fun e _ => hf e

theorem bare_autoCleared (m : BitVec 16) (e : ReactEntry) : bare (autoCleared m e) = bare e := by
  unfold autoCleared; split <;> rfl

theorem bare_triggered (m : BitVec 16) (e : ReactEntry) : bare (triggered m e) = bare e := by
  unfold triggered; split <;> rfl

theorem evolves_arbitrate (s : State) : Evolves s (arbitrate s) := by
  unfold arbitrate
  split
  · exact .refl s
  · split
    · exact evolves_modReaction _ (fun e => { e with state := .purge }) (fun _ => rfl) s
    · split
      · exact (evolves_modReaction _ (fun e => { e with state := .waiting }) (fun _ => rfl) s).trans
          (evolves_modReaction _ (fun e => { e with state := .purge }) (fun _ => rfl) _)
      · exact .refl s

theorem evolves_judgePressureValves (s : State) : Evolves s (judgePressureValves s) := by
  unfold judgePressureValves
  split
  · exact .refl s
  · exact evolves_setCond _ _ _ (.inr rfl)

theorem evolves_foldl {β : Type} (f : State → β → State) (h : ∀ s b, Evolves s (f s b)) (l : List β) (s : State) :
    Evolves s (l.foldl f s) := by
  induction l generalizing s with
  | nil => exact .refl s
  | cons b t ih => exact (h s b).trans (ih _)

theorem evolves_settleRound (s : State) : Evolves s (settleRound s) :=
  (((evolves_mapReactions _ (bare_autoCleared _) s).trans (evolves_mapReactions _ (bare_triggered _) _)).trans
    ((evolves_arbitrate _).trans (evolves_judgePressureValves _))).trans
    (evolves_foldl _ (fun t i => evolves_askMode i t) _ _)

theorem evolves_settleLoop (fuel : Nat) (s : State) : Evolves s (settleLoop fuel s) := by
  induction fuel generalizing s with
  | zero => exact .refl s
  | succ n ih =>
    unfold settleLoop
    dsimp only
    split
    · exact evolves_settleRound s
    · exact (evolves_settleRound s).trans (ih _)

/-- REACT's judging of an event (R181, R185 to R189). -/
theorem evolves_settle (s : State) : Evolves s (settle s) := evolves_settleLoop 8 s

/-! ### Judging with nothing to judge -/

theorem mapReactions_id (f : ReactEntry → ReactEntry) (s : State) (h : ∀ e ∈ s.react.entries, f e = e) :
    mapReactions f s = s := by
  have e : s.react.entries.map f = s.react.entries := by
    conv => rhs; rw [← List.map_id s.react.entries]
    exact List.map_congr_left h
  simp [mapReactions, e]

theorem bestWaiting_none (l : List ReactEntry) (h : ∀ e ∈ l, e.state ≠ .waiting) : bestWaiting l = none := by
  unfold bestWaiting
  have : ∀ (m : List (ReactEntry × Nat)) (_ : ∀ x ∈ m, x.1.state ≠ .waiting),
      m.foldl (fun best x =>
        if x.1.state = .waiting then
          match best with
          | none => some (x.2, x.1.priority)
          | some b => if b.2 < x.1.priority then some (x.2, x.1.priority) else some b
        else best) none = none := by
    intro m hm
    induction m with
    | nil => rfl
    | cons x t ih =>
      rw [List.foldl_cons, if_neg (hm x (by simp))]
      exact ih fun y hy => hm y (by simp [hy])
  refine this _ fun x hx => h _ ?_
  exact List.fst_mem_of_mem_zipIdx hx

/-- The entries as REACT leaves them when none is to be cleared, triggered or given the timer. -/
theorem settleRound_still (s : State) (hw : ∀ e ∈ s.react.entries, e.state ≠ .waiting)
    (ht : ∀ e ∈ s.react.entries, triggerDue s.react.marks e = false)
    (ha : ∀ e ∈ s.react.entries, autoCleared s.react.marks e = e) : settleRound s = judgePressureValves s := by
  have e1 := mapReactions_id _ s ha
  have e2 : mapReactions (triggered s.react.marks) s = s :=
    mapReactions_id _ s fun e he => by unfold triggered; rw [ht e he]; simp
  have e3 : appliedNow s = [] := by
    unfold appliedNow
    rw [List.filter_eq_nil_iff.mpr, List.map_nil]
    intro x hx
    simp [ht x.1 (List.fst_mem_of_mem_zipIdx hx)]
  have e4 : arbitrate s = s := by unfold arbitrate; rw [bestWaiting_none _ hw]
  unfold settleRound
  simp only [e1, e2, e3, e4, List.foldl_nil]

@[simp] theorem judgePressureValves_entries (s : State) : (judgePressureValves s).react.entries = s.react.entries := by
  unfold judgePressureValves; split <;> simp

theorem valveOpen_setCond (c : Cond) (b : Bool) (s : State) : valveOpen (setCond c b s) = valveOpen s := rfl

theorem withMark_false_false (c : Cond) (m : BitVec 16) : withMark c false (withMark c false m) = withMark c false m := by
  simp [withMark, BitVec.and_assoc]

theorem judgePressureValves_twice (s : State) : judgePressureValves (judgePressureValves s) = judgePressureValves s := by
  by_cases h : valveOpen s = true
  · simp [judgePressureValves, h]
  · have e : judgePressureValves s = setCond .pressureLow false s := by simp [judgePressureValves, h]
    rw [e]
    unfold judgePressureValves
    rw [valveOpen_setCond, if_neg h]
    simp [setCond, withMark_false_false]

/-- With every reaction disabled and IDLE, REACT's judging comes down to the valves' pressure judgement. -/
theorem settle_quiet (s : State) (h : reactQuiet s) : settle s = judgePressureValves s := by
  have still : ∀ t : State, t.react.entries = s.react.entries → settleRound t = judgePressureValves t := by
    intro t ht
    refine settleRound_still t ?_ ?_ ?_ <;> intro e he <;> rw [ht] at he <;> obtain ⟨h1, h2⟩ := h e he
    · simp [h2]
    · simp [triggerDue, h1]
    · simp [autoCleared, h2]
  unfold settle settleLoop
  dsimp only
  rw [still s rfl]
  split
  · rfl
  · unfold settleLoop
    dsimp only
    rw [still _ (by simp), judgePressureValves_twice, if_pos rfl]

theorem setCond_false_same (c : Cond) (s : State) (h : s.cond c = false) : setCond c false s = s := by
  have e : withMark c false s.react.marks = s.react.marks := by
    ext i hi
    rw [← BitVec.getLsbD_eq_getElem, ← BitVec.getLsbD_eq_getElem]
    by_cases k : i = condNum c
    · subst k
      rw [withMark_getLsbD, if_pos rfl]
      exact h.symm
    · simp only [withMark, condBit, Bool.false_eq_true, if_false]
      rw [BitVec.getLsbD_and, BitVec.getLsbD_not]
      simp [hi]
      intro _
      omega
  unfold setCond
  rw [e]

/-- With nothing to judge at REACT, its judging leaves the whole state as it is. -/
theorem settle_atRest (s : State) (h : reactAtRest s) : settle s = s := by
  have e : judgePressureValves s = s := by
    unfold judgePressureValves
    split
    · rfl
    · rename_i k
      exact setCond_false_same _ _ (h.2.resolve_right k)
  have r : settleRound s = s := by
    rw [settleRound_still s (fun e he => (h.1 e he).1), e]
    · intro x hx
      obtain ⟨_, h2, _⟩ := h.1 x hx
      unfold triggerDue triggerActive
      cases hs : x.enabled <;> simp
      intro k
      have := h2 k hs
      simp [this]
    · intro x hx
      obtain ⟨_, _, h3⟩ := h.1 x hx
      unfold autoCleared triggerActive
      split
      · rename_i k
        exact absurd (by simpa using k.2.2) (h3 k.1 k.2.1)
      · rfl
  unfold settle settleLoop
  dsimp only
  rw [r, if_pos rfl]

end Sys2Proof.Machine
end

