-- ==== Sys2Proof/Tests/Slice0.lean ====
section
/-! SUPPORT. The model's own tests: ill-formed commands, the worked examples of spec/, and for each statement with
hypotheses a state and operands that meet them. -/
set_option Elab.async false
namespace Sys2Proof.Tests
open Sys2Proof Sys2Proof.Machine

/-! ### Helpers -/

/-- A request of these argument words, zeros behind them. -/
def req (args : List Word) : Request :=
  { args := args, rest := List.replicate (16 - args.length) 0, destTop := false, byte7 := 0 }

/-- The state a command leaves. -/
def after (c : Instr) (s : State) : State :=
  match exec c s with
  | .next t => t
  | _ => s

/-- The service frame just sent. -/
def sent (s : State) : Option ServiceFrame :=
  match s.ring.out with
  | .service f => some f
  | _ => none

/-- Answer code, reason code and detail of the service frame just sent. -/
def answer (s : State) : Option (Byte × Byte × Word) := (sent s).map fun f => (f.answerCode, f.reason, f.detail)

/-- The first answer words of the service frame just sent. -/
def words (n : Nat) (s : State) : Option (List Word) := (sent s).map fun f => f.answers.take n

/-- The part right after Full reset with the line table SET. -/
def lineSet : State :=
  { State.reset with
    table := { State.reset.table with state := .set }
    heat := { State.reset.heat with cells := List.replicate 64 { owner := none, age := 0, exposure := 0 } } }

/-- A state in this line mode. -/
def inMode (m : Mode) (s : State) : State := { s with mode := { s.mode with mode := m } }

/-- A state with this parameter of the applied image. -/
def withPar (n v : Nat) (s : State) : State :=
  { s with table := { s.table with applied := s.table.applied.set (n - 1) v } }

/-- A state with its flat position at this many whole wu. -/
def atBladePos (p : Nat) (s : State) : State :=
  { s with pos := { s.pos with flat := { s.pos.flat with fine := 65536 * p } } }

/-- The box-pleat pattern of 02 Pattern Store, words by the layout of R205. -/
def boxPleat : List (Word × Word) :=
  [(805306368, 3000), (1073741828, 0), (268437456, 1000), (335546320, 1000), (805306368, 500), (1342177280, 0),
   (805306368, 3000)]

/-- The graduated run of 03 Fold Scheduler: SPACE 2,000; RAMP LEFT 5, 1,500, 800 to 1,250; SPACE 1,000. -/
def graduated : List (Word × Word) := [(805306368, 2000), (538183132, 52430050), (805306368, 1000)]

/-- An OPEN slot with these entries written from index 0 on. -/
def openSlotOf (es : List (Word × Word)) : PatSlot :=
  { PatSlot.reset with
    state := .opened, entries := es ++ List.replicate (64 - es.length) (0, 0),
    written := BitVec.ofNat 64 (2 ^ es.length - 1) }

/-- The slot closed. -/
def closedSlotOf (es : List (Word × Word)) : PatSlot := slotClosed es.length (wordSum es es.length) (openSlotOf es)

/-- A state with this slot at this number. -/
def withSlot (n : Nat) (p : PatSlot) (s : State) : State := { s with pat := s.pat.set n p }

/-- A class of target dwell 12 s and setpoint 150.0 °C in zone 1. -/
def cotton : FabricClass :=
  { isDefined := true, minDwell := 10000, targetDwell := 12000, maxDwell := 30000, tol := 50, bandAllow := 0,
    sets := [1500, 0, 0, 0], useCount := 0 }

/-- A state with this class at this number. -/
def withClass (n : Nat) (c : FabricClass) (s : State) : State :=
  { s with heat := { s.heat with classes := s.heat.classes.set n c } }

/-- Panel 3107 of 03 Fold Scheduler. -/
def p3107 : PanelId := { order := 3107, remake := 0, slot := 12, cls := 3 }

/-- Panel 3107 as it comes to the blade: SET table, RUN, flat start 1,000,000, serial 41 held, READY. -/
def panelAtBlade : State :=
  let s := inMode .run (atBladePos 1000000 (withPar 20 20 (withSlot 12 (closedSlotOf graduated)
    (withClass 3 cotton lineSet))))
  takePanel { serial := 7, kind := .panel p3107, start := 1000000, len := 20752, anchored := false } p3107
    { s with fold := { s.fold with held := 41, synced := true, status := some .ready, done := 41 } }

/-! ### Ill-formed commands: one for each check -/

theorem test_wf_request_of_17_words : (Instr.identify { req [] with rest := List.replicate 17 0 }).wf = false := by decide
theorem test_wf_empty_cycle_frame : (Instr.cycleFrame { cycle := 0, speed := 0, slots := [] }).wf = false := by decide
theorem test_wf_cycle_frame_of_65_slots :
    (Instr.cycleFrame { cycle := 0, speed := 0, slots := List.replicate 65 (slotOfBytes 0 0 0 0 0 0 0) }).wf = false := by
  decide
theorem test_wf_other_kind_of_kind_2 : (Instr.otherKindFrame [2, 0]).wf = false := by decide
theorem test_wf_other_kind_without_bytes : (Instr.otherKindFrame []).wf = false := by decide
theorem test_wf_check_error_of_kind_3 : (Instr.frameCheckError [3, 0, 0]).wf = false := by decide +kernel
theorem test_wf_check_error_of_good_frame :
    (Instr.frameCheckError
      (cycleBytes { cycle := 0, speed := 0, slots := [slotOfBytes 0 0 0 0 0 0 0] })).wf = false := by decide +kernel
theorem test_wf_forward_of_15_words :
    (Instr.serviceFrameForward { serviceOfBytes [] with args := List.replicate 15 0, answers := List.replicate 16 0 }).wf =
      false := by decide
theorem test_wf_known_code_unknown : (Instr.unknownRequest 29 (req [])).wf = false := by decide
theorem test_wf_count_16_malformed : (Instr.argumentCountMalformed 1 16 (req [])).wf = false := by decide
theorem test_wf_elapsed_0 : (Instr.settleEnd 0).wf = false := by decide
theorem test_wf_elapsed_32769 : (Instr.purgeEnd 32769).wf = false := by decide
theorem test_wf_signal_loss_of_command : (Instr.signalLoss 14).wf = false := by decide

/-! ### The bytes of frames -/

/-- The check value of the generator, starting value and bit order that R193 names, for the digits 1 to 9. -/
theorem test_frame_check : frameCheck [49, 50, 51, 52, 53, 54, 55, 56, 57] = 0x29B1#16 := by decide +kernel

/-- A service frame to address 5 with code 1, no argument words (R203): taken as IDENTIFY at 5, forwarded at 6. -/
def identifyFrame : ServiceFrame := serviceOfBytes ([2, 5, 1] ++ List.replicate 137 0)

theorem test_service_identify : serviceCommand 5 identifyFrame = .identify (req []) := by decide
theorem test_service_not_addressed : serviceCommand 6 identifyFrame = .serviceFrameForward identifyFrame := by decide
theorem test_service_code_30 :
    serviceCommand 0 (serviceOfBytes ([2, 0, 30] ++ List.replicate 137 0)) = .unknownRequest 30 (req []) := by decide
theorem test_service_count_17 :
    serviceCommand 0 (serviceOfBytes ([2, 0, 1, 17] ++ List.replicate 136 0)) =
      .argumentCountMalformed 1 17 { args := [], rest := List.replicate 16 0, destTop := false, byte7 := 0 } := by
  decide
theorem test_receive_kind_3 : receive 0 [3, 0] = .otherKindFrame [3, 0] := by decide

/-- A cycle frame of one slot, byte by byte (R203): cycle 258, speed −2, slot 0 a fresh COMMAND of node kind 4. -/
theorem test_receive_cycle :
    receive 0 (withCheck [1, 1, 1, 2, 255, 255, 255, 254, 192, 4, 128, 0, 0, 1, 0]) =
      .cycleFrame
        { cycle := 258, speed := 4294967294,
          slots := [{ index := 0, command := true, toggle := true, nodeKind := 4, nodeFault := false, reserved := 0,
                      parity := true, value := 256 }] } := by decide +kernel

/-! ### 01 Line Table and Web Coordinates: tracking the feed -/

/-- The feed encoder before frame 1 of the worked example. -/
def feedStart : Encoder :=
  { fine := 65536 * 500000, excess := 0, baseline := 4294967290, valid := true, since := 1, jumpOpen := false,
    saturated := false }

/-- Frame 1: the raw count wraps. -/
theorem test_feed_wrap : (acceptSample 87381 feedStart 3).fine = 65536 * 500011 + 65533 := by decide
/-- Frame 2: the fabric is drawn back. -/
theorem test_feed_reverse :
    (acceptSample 87381 { feedStart with fine := 65536 * 500011 + 65533, baseline := 3 } 0).excess = 262143 := by decide
/-- Frame 3: the reverse excess is paid off first. -/
theorem test_feed_payoff :
    (acceptSample 87381 { feedStart with fine := 65536 * 500011 + 65533, baseline := 0, excess := 262143 } 6).fine =
      65536 * 500015 + 65532 := by decide
/-- Frames 5 and 6: 101 counts against 80 is a jump, 102 against 120 is none. -/
theorem test_feed_jump :
    isJump 40 { feedStart with baseline := 6, since := 2 } 107 = true ∧
      isJump 40 { feedStart with baseline := 6, since := 3 } 108 = false := by decide

/-- Cycle 0 was lost: the elapsed count from 65,535 to 1 is 2. -/
theorem test_elapsed_wrap :
    elapsedFor { State.reset with pos := { State.reset.pos with lastCycle := some 65535 } } 1 = 2 := by decide

/-! ### 02 Pattern Store: box pleats, and a pattern that expands too far -/

theorem test_box_pleat_closes :
    words 7 (after (.closeSlot (req [5, 7, wordSum boxPleat 7])) (withSlot 5 (openSlotOf boxPleat) State.reset)) =
      some [word (2 + 65536 * 7), 8, 40000, 24000, 2000, 1000, 109226] := by decide +kernel
theorem test_close_finds_bad_depth :
    closeCheck (openSlotOf (boxPleat.set 3 (335546320, 6000))) 7 (wordSum (boxPleat.set 3 (335546320, 6000)) 7) =
      some (3, 3) := by decide +kernel
theorem test_close_unwritten_and_sum :
    closeCheck (openSlotOf boxPleat) 8 0 = some (1, 7) ∧ closeCheck (openSlotOf boxPleat) 7 0 = some (2, 64) := by
  decide +kernel
/-- Three nested groups around one ramp: 5,000 folds, then 5,600,000 wu, then a pattern that closes. -/
def nestedRun (r : Nat) : List Entry :=
  [.groupBegin r, .groupBegin 10, .ramp none 25 600 300 500, .groupEnd, .groupEnd]

theorem test_expands_too_far :
    structureCheck (nestedRun 20) = some (8, 2) ∧ structureCheck (nestedRun 16) = some (9, 2) ∧
      structureCheck (nestedRun 11) = none ∧ (totalsOf (nestedRun 11)).f = 3850000 := by decide +kernel
theorem test_graduated_depths :
    (List.range 5).map (rampDepth 5 800 1250) = [800, 913, 1025, 1138, 1250] := by decide
theorem test_graduated_totals :
    (closedSlotOf graduated).totals =
      some { n := 5, f := 20752, o := 10500, pMin := 1500, dMax := 1250, ratio := 129524 } := by decide +kernel

/-! ### 03 Fold Scheduler: walks, strokes and an abort -/

/-- The cursor in a repeated group: fold 1 pending, then fold 2 after the group has repeated. -/
theorem test_box_pleat_cursor :
    let es := boxPleat.filterMap decodeEntry
    let w0 := startWalk (closedSlotOf boxPleat) 5 0
    let w1 := leaveFold es 0 { k := 0, dir := .left, depth := 1000, pitch := 2000, fire := 5000, last := false } w0
    let w2 := leaveFold es 0 { k := 1, dir := .right, depth := 1000, pitch := 2000, fire := 9000, last := false } w1
    w0.pending.map (·.fire) = some 5000 ∧ w1.pending.map (fun f => (f.fire, f.dir)) = some (9000, .right) ∧
      w2.pending.map (·.fire) = some 13500 ∧ w2.stack = [{ begin := 1, left := 2 }] := by decide +kernel

/-- Frame b: stroke 42 is issued with depth 800 and fold 1 comes to fire at 1,006,600. -/
theorem test_stroke_42 :
    let t := issueTest 41 (atBladePos 1003503 panelAtBlade)
    (t.fold.held, t.fold.heldDepth, t.fold.heldLast) = (42, 800, false) ∧
      (t.walk.bind (·.pending)).map (fun f => (f.fire, f.depth)) = some (1006600, 913) ∧
      t.cond .bladeOverrun = false := by decide +kernel
/-- Frame a: fold 0 is not due; a lateness of 30 is judged late. -/
theorem test_stroke_not_due_and_late :
    issueTest 41 (atBladePos 1003499 panelAtBlade) = atBladePos 1003499 panelAtBlade ∧
      (issueTest 41 (atBladePos 1003530 panelAtBlade)).cond .bladeOverrun = true ∧
      ((issueTest 41 (atBladePos 1003530 panelAtBlade)).fault.history.map (·.detail)) = [511] := by decide +kernel
/-- Folds 0 to 2 issued, the abort leaves an output length of 15,276. -/
theorem test_abort_length :
    let g := panelAtBlade.fold.seg
    let s := { panelAtBlade with
               fold := { panelAtBlade.fold with
                         seg := g.map fun g =>
                           { g with walk := g.walk.map fun w => { w with flatDone := 11976, outDone := 6500 } } } }
    (abortWalk .aborted s).plan.setMap.map (fun r => (r.outLen, r.rejects)) = [(15276, 64#8)] := by decide +kernel

/-! ### 04 Panel Plan and Set Map: a splice in the panel at the blade -/

/-- Panel 5120 at the blade, its plan, and classes 3, 4 and 9, with PANEL_GAP 5,000. -/
def beforeSplice : State :=
  let p5120 : PanelId := { order := 5120, remake := 0, slot := 7, cls := 3 }
  let s := withClass 3 cotton (withClass 4 cotton (withClass 9 { cotton with sets := [1900, 0, 0, 0] } lineSet))
  let s := withSlot 7
    { PatSlot.reset with
      state := .locked, useCount := 1
      totals := some { n := 26, f := 104000, o := 52000, pMin := 2000, dMax := 1000, ratio := 131072 } } s
  let w : Walk :=
    { slot := 7, n := 26, status := .walking, entry := 0, stack := [], ramp := 0, k := 0, base := 0, out := 0,
      folds := 0, maxLate := 0, flatDone := 0, outDone := 0, pending := none }
  let g : Seg := { serial := 300, kind := .panel p5120, start := 2000000, len := 104000, anchored := false }
  let s := withPar 15 5000 (inMode .run (atBladePos 2001500 s))
  { s with
    fold := { s.fold with seg := some { serial := 300, kind := g.kind, start := g.start, len := g.len, walk := some w } }
    plan := { s.plan with
              counter := 304
              setMap := [enterRec g g.kind 880000 52000]
              segs := [{ serial := 301, kind := .gap, start := 2104000, len := 5000, anchored := false },
                       { serial := 302, kind := .panel { order := 5121, remake := 0, slot := 7, cls := 4 },
                         start := 2109000, len := 40000, anchored := false },
                       { serial := 303, kind := .gap, start := 2149000, len := 121875, anchored := false },
                       { serial := 304, kind := .panel { order := 5122, remake := 0, slot := 7, cls := 9 },
                         start := 2270875, len := 30000, anchored := false }] } }

/-- The plan as serials with flat starts and lengths. -/
def planOf (s : State) : List (Nat × Nat × Nat) := s.plan.segs.map fun g => (g.serial.toNat, g.start, g.len)

theorem test_splice_and_remake :
    let t := spliceRecord 2101500 beforeSplice
    planOf t =
        [(305, 2104000, 2500), (301, 2106500, 5000), (306, 2111500, 104000), (307, 2215500, 5000),
         (302, 2220500, 40000), (303, 2260500, 121875), (304, 2382375, 30000)] ∧
      t.plan.setMap.map (fun r => (r.disposition, r.rejects)) = [(.remade, 16#8)] ∧
      t.fault.history.map (·.detail) = [481] ∧ (t.slot 7).useCount = 2 := by decide +kernel
/-- The splice inside panel 5121. -/
theorem test_splice_in_plan :
    planOf (spliceRecord 2131500 (atBladePos 2031500 beforeSplice)) =
      [(301, 2104000, 27500), (305, 2131500, 5000), (302, 2136500, 40000), (303, 2176500, 121875),
       (304, 2298375, 30000)] := by decide +kernel

/-! ### 05 Heat Setting: one shift inside an advance -/

/-- A panel's set extent from 390,000 on, the accumulator at 1,872. -/
def oneShift : State :=
  let g : Seg := { serial := 7, kind := .panel p3107, start := 1000000, len := 20752, anchored := false }
  { lineSet with
    heat := { lineSet.heat with acc := 1872 }
    plan := { lineSet.plan with setMap := [enterRec g g.kind 390003 10500] } }

theorem test_one_shift :
    (heatAdvance 400000 6 oneShift).heat.acc = 3 ∧
      (heatAdvance 400000 6 oneShift).heat.cells.head?.map (·.owner) = some (some 7) ∧
      (heatAdvance 400000 5 { oneShift with heat := { oneShift.heat with acc := 1873 } }).heat.cells.head?.map (·.owner)
        = some none := by decide +kernel
theorem test_three_shifts : (heatAdvance 400000 3760 oneShift).heat.acc = 7 := by decide +kernel

/-! ### 06 Speed Governor: the ramp through a pattern change -/

/-- Frame 1: panel 3107 WALKING, the previous command 5,200. -/
def governorFrame : State :=
  let s := withPar 18 240 (withPar 21 40000 (withPar 23 500 (withPar 24 500 (withPar 25 3500 panelAtBlade))))
  { s with gov := { s.gov with conv := 5200 } }

theorem test_governor_frame_1 :
    let g := (govern 30000 1 governorFrame).gov
    (g.limits.dwell, g.limits.stroke, g.target, g.cause, g.conv, g.ratio, g.feed) =
      (some 10000, some 6000, 6000, .stroke, 5700, 129524, 11265) := by decide +kernel
/-- Frames 6 and 10: a command falls by DECEL_STEP, and at once to a lower request. -/
theorem test_governor_ramp :
    rampedCommand 500 500 1 5000 3000 30000 = 4500 ∧ rampedCommand 500 500 1 3000 2000 2000 = 2000 ∧
      rampedCommand 500 500 3 3000 6000 30000 = 4500 := by decide

/-! ### 08 Line Modes: requests that are refused, and a ring loss -/

theorem test_set_mode_801 : answer (after (.setMode (req [3])) State.reset) = some (2, 33, 801) := by decide +kernel
theorem test_set_mode_802 : answer (after (.setMode (req [3])) lineSet) = some (2, 33, 802) := by decide +kernel
theorem test_line_reset_in_run : answer (after (.lineReset (req [])) (inMode .run lineSet)) = some (2, 1, 0) := by
  decide +kernel
theorem test_cycle_timeout_in_run :
    let t := after .cycleTimeout (inMode .run lineSet)
    (t.mode.mode, t.mode.cause, t.ring.expired, t.fault.history.map (·.detail)) = (.halting, .ringLost, true, [721]) := by
  decide +kernel

/-! ### 09 Signal Supervision and Reactions: a purge pre-empted -/

/-- Entries 0, 3 and 5 of the worked example. -/
def threeReactions : State :=
  let e0 := { ReactEntry.reset with
              enabled := true, trigger := 64, priority := 1, modeAction := .hold, speedCap := some 2000,
              steamAction := .close, purgeCycles := 3000, autoClear := true }
  let e3 := { ReactEntry.reset with
              enabled := true, trigger := 3, priority := 3, modeAction := .halt, speedCap := some 0,
              steamAction := .vent, purgeCycles := 200, inhibit := true }
  let e5 := { ReactEntry.reset with
              enabled := true, trigger := 16, priority := 1, steamAction := .standby, purgeCycles := 1000,
              autoClear := true }
  let s := withPar 50 1 (inMode .run lineSet)
  { s with
    react := { s.react with entries := ((s.react.entries.set 0 e0).set 3 e3).set 5 e5 } }

/-- Frame 2200: entry 0 purging with 1,800 cycles left. -/
def purging : State :=
  modReaction 0 (fun e => { e with state := .purge, remaining := 1800 }) threeReactions

/-- State and remaining purge cycles of entries 0, 3 and 5. -/
def purgeOf (s : State) : List (ReactState × Nat) :=
  [s.reaction 0, s.reaction 3, s.reaction 5].map fun e => (e.state, e.remaining)

/-- The guard edge: entry 3 pre-empts entry 0. -/
theorem test_guard_edge_preempts :
    let t := after (.tripInputChange .guard true) purging
    purgeOf t = [(.waiting, 1800), (.purge, 200), (.idle, 0)] ∧ t.speedCap = some 0 ∧ t.inhibited = true ∧
      t.fault.history.map (·.detail) = [831] := by decide +kernel
/-- Frame 2400: entry 3 is APPLIED and halts the line; entry 0 has the timer again. -/
theorem test_purge_end_halts :
    let t := after (.purgeEnd 200) (after (.tripInputChange .guard true) purging)
    purgeOf t = [(.purge, 1800), (.applied, 0), (.idle, 0)] ∧ t.steamRestriction = .vent ∧
      t.mode = { mode := .halting, step := 0, cause := .reaction 3 } := by decide +kernel
/-- Entry 3 while the guard latch holds GUARD, and after ACK_TRIP. -/
def guardApplied : State :=
  { modReaction 3 (fun e => { e with state := .applied }) threeReactions with
    react := { (modReaction 3 (fun e => { e with state := .applied }) threeReactions).react with marks := 2 }
    sig := { threeReactions.sig with guard := { asserted := false, latch := true } } }

theorem test_ack_reaction_still_active :
    answer (after (.ackReaction (req [3])) guardApplied) = some (2, 37, 1) := by decide +kernel
theorem test_ack_trip_then_reaction :
    let t := after (.ackTrip (req [1])) guardApplied
    words 1 t = some [8] ∧ (after (.ackReaction (req [3])) t).steamRestriction = .keep := by decide +kernel

/-! ### 11 Fault Record: merging and overflow -/

/-- A history of 15 entries, 731 the newest, the group 7 flag set. -/
def fifteenFaults : State :=
  let h : HistEntry := { detail := 731, subject := .none, cycle := 0, pBlade := 0, repeats := 1 }
  setCond .faultLatched true
    { State.reset with fault := { history := h :: List.replicate 14 { h with detail := 641 }, flags := 64 } }

/-- After 511 twice, 611, and 511 again. -/
theorem test_faults_merge_and_overflow :
    let s1 := recordFault 511 (.order 3107) fifteenFaults
    let s2 := recordFault 511 (.order 3107) s1
    let s3 := recordFault 611 (.signal 8) s2
    let s4 := recordFault 511 (.order 3107) s3
    (s1.fault.history.length, s1.fault.flags) = (16, 80#8) ∧
      s2.fault.history.head?.map (·.repeats) = some 2 ∧ s2.fault.history.length = 16 ∧
      (s3.fault.history.length, s3.fault.flags) = (16, 113#8) ∧ s4.fault.history.head?.map (·.repeats) = some 1 := by
  decide +kernel
theorem test_clear_faults :
    let t := after (.clearFaults (req [])) (recordFault 511 (.order 3107) fifteenFaults)
    words 1 t = some [word (65536 * 80)] ∧ t.cond .faultLatched = false ∧ t.fault.history.length = 16 := by
  decide +kernel

/-! ### Other commands, by their rules -/

theorem test_identify : words 2 (after (.identify (req [])) State.reset) = some [86, 4620] := by decide +kernel
theorem test_apply_at_reset : answer (after (.applyLine (req [])) State.reset) = some (1, 0, 0) := by decide +kernel
theorem test_apply_cross_check_8 :
    answer (after (.applyLine (req []))
      { State.reset with table := { State.reset.table with edit := paramResets.set 20 1500 |>.set 45 1500 |>.set 21 1501 } })
      = some (2, 5, 8) := by decide +kernel
theorem test_write_param_bad_pair :
    answer (after (.writeLineParam (req [1, 1000, 51, 0])) State.reset) = some (2, 3, 1) ∧
      answer (after (.writeLineParam (req [2, 0, 51, 0])) State.reset) = some (2, 4, 0) := by decide +kernel
theorem test_write_param_not_quarter : answer (after (.writeLineParam (req [1, 1100])) State.reset) = some (2, 4, 0) := by
  decide +kernel
theorem test_write_signal_taken_slot :
    answer (after (.writeSignal (req [1, 3, 0, 5])) (after (.writeSignal (req [0, 3, 0, 5])) State.reset)) =
      some (2, 34, 0) := by decide +kernel
theorem test_write_class_sets_10 :
    answer (after (.writeClass (req [0, 1, 100, 200, 300, 5, 0, 1, 2, 3, 2501])) State.reset) = some (2, 4, 10) := by
  decide +kernel
theorem test_mislocked_slot :
    answer (after (.openSlot (req [7])) beforeSplice) = some (2, 7, 0) := by decide +kernel
theorem test_read_slot_summary :
    words 4 (after (.readSlot (req [12, 99, 0])) panelAtBlade) = some [word (2 + 65536 * 3), 5, 20752, 10500] := by
  decide +kernel
theorem test_plan_panel_on_empty_plan :
    words 3 (after (.planPanel (req [8001, 12, 3])) panelAtBlade) = some [1, 0, 1020752] := by decide +kernel
theorem test_plan_panel_order_in_use :
    answer (after (.planPanel (req [3107, 12, 3])) panelAtBlade) = some (2, 19, 0) := by decide +kernel
theorem test_cancel_started : answer (after (.cancelPanel (req [3107])) panelAtBlade) = some (2, 21, 0) := by
  decide +kernel
theorem test_cancel_merges :
    planOf (after (.cancelPanel (req [5122])) beforeSplice) =
      [(301, 2104000, 5000), (302, 2109000, 40000), (303, 2149000, 151875)] := by decide +kernel
theorem test_cut_oldest :
    let s := { lineSet with
               plan := { lineSet.plan with
                         setMap := [enterRec { serial := 1, kind := .gap, start := 0, len := 10, anchored := false } .gap
                           0 10] }
               pos := { lineSet.pos with conv := { lineSet.pos.conv with fine := 65536 * 200010 } } }
    (cutTest s).plan.setMap = [] ∧ (cutTest s).plan.cutSerial = 1 ∧
      cutTest { s with pos := { s.pos with conv := { s.pos.conv with fine := 65536 * 200010 - 1 } } } =
        { s with pos := { s.pos with conv := { s.pos.conv with fine := 65536 * 200010 - 1 } } } := by decide +kernel
theorem test_halting_fourth_step :
    let s := { lineSet with mode := { mode := .halting, step := 3, cause := .request } }
    (haltingStep s).mode = { mode := .halt, step := 0, cause := .request } := by decide +kernel
theorem test_status_word :
    statusWord true { lineSet with plan := { lineSet.plan with discard := true } } =
      word (256 + 2097152 + 4194304) := by decide +kernel

/-! ### Cycle frames as commands -/

/-- A good COMMAND slot of index 0 and node kind 4, toggle 0, value 0, even parity (index 0, kind bit 1, node kind 4:
two one bits). -/
def commandSlot : Slot :=
  { index := 0, command := true, toggle := false, nodeKind := 4, nodeFault := false, reserved := 0, parity := false,
    value := 0 }

/-- A good SAMPLE slot of index 1 and node kind 2 with this toggle and parity. -/
def sampleSlot (toggle parity : Bool) (value : Word) : Slot :=
  { index := 1, command := false, toggle := toggle, nodeKind := 2, nodeFault := false, reserved := 0, parity := parity,
    value := value }

/-- LINE_STATUS mapped to slot 0 and BOX_PRESS to slot 1, the bypass open, no cycle number yet. -/
def mappedTwo : State :=
  let e := State.reset.sig.entries
  let e := e.set 26 { SigEntry.reset with slot := some 0, nodeKind := 4 }
  let e := e.set 7 { SigEntry.reset with slot := some 1, nodeKind := 2, staleLimit := 2, state := .awaiting, stale := 2 }
  { State.reset with sig := { State.reset.sig with entries := e } }

/-- A frame of both slots, BOX_PRESS reporting 280 (five one bits with index and node kind, so parity 1). -/
def twoSlots (cycle : BitVec 16) : CycleFrame :=
  { cycle := cycle, speed := 0, slots := [commandSlot, sampleSlot false true 280] }

/-- The status slot of the first frame: HALT, cause MODE and the reset notice (R197), the toggle flipped, and parity 1
for five one bits: toggle, kind, node kind and two of the value. -/
theorem test_frame_writes_status :
    (match (after (.cycleFrame (twoSlots 9)) mappedTwo).ring.out with
      | .cycle g => g.slots.map fun x => (x.value, x.toggle, x.parity)
      | _ => []) = [(4194560, true, true), (280, false, true)] := by decide +kernel

/-- BOX_PRESS is FRESH with its reading; the same cycle number again is a SEQUENCE error. -/
theorem test_frame_samples_and_sequence :
    let s := after (.cycleFrame (twoSlots 9)) mappedTwo
    let t := after (.cycleFrame (twoSlots 9)) s
    (s.entry 7).state = .fresh ∧ s.heat.press = some 280 ∧ s.ring.budget = 16 ∧ t.ring.budget = 15 ∧
      t.fault.history.map (·.detail) = [731] := by decide +kernel

/-! ### States and operands that meet the statements' hypotheses -/

theorem witness_StepRunsFrontCommand : State.reset.pending = [] := rfl

theorem witness_FramesReadBack :
    CycleFrame.wf { cycle := 0, speed := 0, slots := [commandSlot] } = true ∧
      CycleFrame.wf { cycle := 0, speed := 0, slots := List.replicate 64 commandSlot } = true ∧
      identifyFrame.wf = true := by decide

/-- The request's frame at its own address, at another, already answered, with an argument count of 17, and with a
code of no request; CLOSE_SLOT by its code. -/
theorem witness_FramesReadBack_dispatch :
    identifyFrame.dest = 5 ∧ identifyFrame.dest ≠ 6 ∧ identifyFrame.answerCode = 0 ∧
      ({ identifyFrame with answerCode := 1 } : ServiceFrame).answerCode ≠ 0 ∧ identifyFrame.argCount.toNat ≤ 16 ∧
      16 < ({ identifyFrame with argCount := 17 } : ServiceFrame).argCount.toNat ∧ requestOfCode 30 = none ∧
      serviceCommand 5 { identifyFrame with code := 13 } = .closeSlot (req []) ∧
      serviceCommand 5 { identifyFrame with answerCode := 1 } =
        .serviceFrameForward { identifyFrame with answerCode := 1 } := by decide

/-- The part with its bypass closed. -/
def bypassed : State := State.inReset 5 false false []

theorem witness_FramesNotUsed :
    State.reset.ring.bypass = false ∧ bypassed.ring.bypass = true ∧ requestOfCode 1 = some .identify ∧
      requestOfCode 29 = some .clearFaults := ⟨rfl, rfl, rfl, rfl⟩

theorem witness_FramesNotUsed_damaged :
    State.reset.ring.bypass = false ∧ 2 ≤ State.reset.ring.budget ∧ reactAtRest State.reset ∧
      ({ State.reset with ring := { State.reset.ring with budget := 1 } } : State).ring.budget ≤ 1 ∧
      (1#8 = 1#8 ∨ (1#8 : Byte) = 2#8) ∧ 2 ≤ ([0, 0] : List Byte).length := by
  unfold reactAtRest; decide +kernel

theorem witness_AnswersSent :
    (answerWords (.done (List.replicate 16 7))).length ≤ 16 ∧ (answerWords (.refused .crossCheck 8)).length ≤ 16 := by
  decide

/-- IDENTIFY with an argument word, SET_MODE WARMUP in UNSET, and an APPLY_LINE that check 8 refuses: their answer
codes. -/
theorem witness_AnswersSent_refused :
    requestOfCode 1 = some .identify ∧ answer (after (.identify (req [0])) State.reset) = some (4, 0, 0) ∧
      requestOfCode 2 = some .setMode ∧ answer (after (.setMode (req [3])) State.reset) = some (2, 33, 801) ∧
      requestOfCode 6 = some .applyLine ∧
      answer (after (.applyLine (req [])) (inMode .run State.reset)) = some (2, 1, 0) :=
  ⟨rfl, by decide +kernel, rfl, by decide +kernel, rfl, by decide +kernel⟩

theorem witness_CycleTimerStartsAndExpires :
    bypassed.ring.bypass = true ∧ State.reset.ring.timer.isSome = true ∧ ¬ moving State.reset ∧
      (inMode .warmup lineSet).ring.timer.isSome = true ∧ moving (inMode .warmup lineSet) := by
  unfold moving; decide

theorem witness_FullResetValues :
    exec (.fullReset 127 true false) panelAtBlade = .next (after (.fullReset 127 true false) panelAtBlade) := rfl

/-- A state whose last used cycle number is 65,535. -/
def lastCycleMax : State := { mappedTwo with pos := { mappedTwo.pos with lastCycle := some 65535 } }

theorem witness_UsedFrameTaken :
    mappedTwo.pos.lastCycle = none ∧ lastCycleMax.pos.lastCycle = some 65535 ∧ mappedTwo.ring.bypass = false ∧
      (twoSlots 0).wf = true ∧ elapsedFor lastCycleMax (twoSlots 0).cycle = 1 ∧
      elapsedFor lastCycleMax (twoSlots 32767).cycle = 32768 := by decide

/-- Both named slots damaged, one of them, and one signal missing: two errors, one and one. With one error left in the
budget the first leaves none, RING_DEGRADED active with fault 711; the window ends at 1,000 cycles, not at 999. -/
theorem witness_UsedFrameTaken_errors :
    let bad := { commandSlot with parity := true }
    let f (x y : Slot) : CycleFrame := { twoSlots 9 with slots := [x, y] }
    let s (budget window : Nat) : State :=
      { mappedTwo with ring := { mappedTwo.ring with budget := budget, window := window } }
    let good := sampleSlot false true 280
    mappedTwo.sig.entries.length = 27 ∧ slotDamaged 0 { commandSlot with reserved := 3 } = true ∧
      slotDamaged 1 commandSlot = true ∧ slotErrors (f bad bad) mappedTwo = 2 ∧ slotErrors (f bad good) mappedTwo = 1 ∧
      slotErrors { twoSlots 9 with slots := [commandSlot] } mappedTwo = 1 ∧ mappedTwo.par 48 = 1000 ∧
      (let t := after (.cycleFrame (f bad good)) (s 1 998)
       (t.ring.budget, t.ring.window, t.cond .ringDegraded, t.fault.history.map (·.detail)) = (0, 999, true, [711])) ∧
      (let t := after (.cycleFrame (f bad good)) (setCond .ringDegraded true (s 2 999))
       (t.ring.budget, t.ring.window, t.cond .ringDegraded) = (mappedTwo.par 47, 0, false)) := by decide +kernel

theorem witness_SequenceErrorRefused :
    lastCycleMax.ring.bypass = false ∧ (twoSlots 65535).wf = true ∧ lastCycleMax.ring.seqOpen = false ∧
      elapsedFor lastCycleMax (twoSlots 65535).cycle = 0 ∧ 32768 < elapsedFor lastCycleMax (twoSlots 32768).cycle := by
  decide

/-- Slot 0 is LINE_STATUS's alone, slot 1 no command's; the slot is good, or damaged with its parity bit turned. -/
theorem witness_CommandSlotsWritten :
    let t := after (.cycleFrame (twoSlots 9)) mappedTwo
    exec (.cycleFrame (twoSlots 9)) mappedTwo = .next t ∧ (t.entry 26).slot = some 0 ∧
      (∀ j, j ≤ 26 → 14 ≤ j → j ≠ 26 → (t.entry j).slot ≠ some 0) ∧
      (∀ j, j ≤ 26 → 14 ≤ j → (t.entry j).slot ≠ some 1) ∧ (twoSlots 9).slots[0]? = some commandSlot ∧
      slotDamaged 0 commandSlot = false ∧ commandSlot.nodeKind.toNat = (t.entry 26).nodeKind ∧
      slotDamaged 0 { commandSlot with parity := true } = true := by
  refine ⟨rfl, ?_⟩; decide +kernel

/-- The flat position at its largest value. -/
def positionFull : State :=
  { State.reset with
    pos := { State.reset.pos with flat := { Encoder.reset with fine := 18446744073709551615, saturated := true } } }

theorem witness_PositionsNeverDecrease :
    positionsInRange positionFull ∧ exec .cycleTimeout positionFull = .next (after .cycleTimeout positionFull) := by
  refine ⟨?_, rfl⟩; unfold positionsInRange; decide

/-- A completion log of 32 entries. -/
def fullLog : State :=
  { State.reset with
    plan := { State.reset.plan with
              log := List.replicate 32
                { id := p3107, first := none, folds := 5, maxLate := 0, minDwell := 0, maxDwell := 0, exposure := 0,
                  disposition := .none } } }

theorem witness_FaultRecordKept :
    faultRecordOk (recordFault 511 (.order 3107) (recordFault 511 (.order 3107) fifteenFaults)) ∧
      faultRecordOk State.reset ∧ logOk fullLog ∧ logOk State.reset := by
  unfold faultRecordOk logOk; decide +kernel

theorem witness_HaltedSpeedsKept :
    haltedSpeeds State.reset ∧ haltedSpeeds (inMode .halting lineSet) ∧ haltedSpeeds governorFrame := by
  unfold haltedSpeeds; decide +kernel

/-- Stand A ACTIVE with its brake OFF, stand B READY with its brake ON, a web on both. -/
def bothStands : State :=
  { lineSet with
    roll := { lineSet.roll with
              standA := { lineSet.roll.standA with role := some .active, diam := some 25000, brake := false }
              standB := { lineSet.roll.standB with role := some .ready, diam := some 90000 } } }

theorem witness_OnePurgeAndBrakesKept :
    (onePurge purging ∧ onePurge State.reset) ∧ brakesOk bothStands ∧ brakesOk State.reset := by
  refine ⟨by unfold onePurge; decide, ?_⟩
  constructor <;> intro x <;> cases x <;> decide

/-- An image of 50 parameters in range, by its list. -/
theorem image_in_range {image : List Nat} {n : Nat}
    (h : ((List.range 51).all fun n => n == 0 ||
      (paramRanges[n - 1]?).any fun r => decide (r.1 ≤ paramOf image n ∧ paramOf image n ≤ r.2 ∧
        (n = 1 → paramOf image n % 250 = 0))) = true) (h1 : 1 ≤ n) (h2 : n ≤ 50) :
    ∃ range, paramRanges[n - 1]? = some range ∧ range.1 ≤ paramOf image n ∧ paramOf image n ≤ range.2 ∧
      (n = 1 → paramOf image n % 250 = 0) := by
  have hn := List.all_eq_true.mp h n (List.mem_range.mpr (by omega))
  have h0 : (n == 0) = false := by simpa using (show n ≠ 0 by omega)
  rw [h0, Bool.false_or] at hn
  cases hr : paramRanges[n - 1]? with
  | none => rw [hr] at hn; cases hn
  | some range => rw [hr] at hn; exact ⟨range, rfl, of_decide_eq_true hn⟩

theorem witness_TablesKept :
    tablesSized State.reset ∧ tablesSized beforeSplice ∧ paramsInRange State.reset ∧ paramsInRange beforeSplice := by
  refine ⟨by unfold tablesSized; decide +kernel, by unfold tablesSized; decide +kernel, ?_, ?_⟩ <;>
    rintro image (rfl | rfl) n h1 h2 <;> exact image_in_range (by decide +kernel) h1 h2

/-- Words at and beyond the ends of a range, of CYCLE_US and of two others (R3). -/
theorem witness_TablesKept_ranges :
    (List.map (paramInRange 1) [0, 250, 251, 4000, 4250], List.map (paramInRange 5) [0, 10000, 10001, 0xFFFFFFFF],
        List.map (paramInRange 50) [0, 1, 2]) =
      ([false, true, false, true, false], [true, true, false, false], [true, true, false]) := by decide

theorem witness_SlotsLockedWhileUsedKept :
    slotsLockedWhileUsed State.reset ∧ slotsLockedWhileUsed beforeSplice ∧
      (beforeSplice.slot 7).state = .locked := by
  unfold slotsLockedWhileUsed; decide +kernel

/-- The order of a plan, by its list. -/
theorem ordered_plan {s : State}
    (h : ((List.range s.plan.segs.length).all fun i => (s.plan.segs[i]?).all fun g =>
      decide (g.start =
        match (if i = 0 then none else s.plan.segs[i - 1]?) with
        | some h => segEnd h
        | none => s.planOrigin)) = true) :
    ∀ i g, s.plan.segs[i]? = some g →
      g.start =
        (match (if i = 0 then none else s.plan.segs[i - 1]?) with
         | some h => segEnd h
         | none => s.planOrigin) := by
  intro i g hg
  have hi := List.all_eq_true.mp h i (List.mem_range.mpr (List.getElem?_eq_some_iff.mp hg).1)
  rw [hg] at hi
  exact of_decide_eq_true hi

/-- A panel at the blade, the newest of the set map, and four records behind it; and the empty line. -/
theorem witness_PlanStaysContiguous :
    paramsInRange beforeSplice ∧ planContiguous beforeSplice ∧ paramsInRange State.reset ∧
      planContiguous State.reset :=
  ⟨witness_TablesKept.2.2.2, ⟨ordered_plan (by decide +kernel), by decide +kernel, ⟨_, rfl, rfl, rfl, rfl⟩⟩,
    witness_TablesKept.2.2.1, ordered_plan rfl, by decide, rfl⟩

theorem witness_AdjacentGapsNeverPlanned : gapsMerged beforeSplice ∧ gapsMerged State.reset := by
  constructor
  · intro i g h hg hh
    match i with
    | 0 => cases hh; simp
    | 1 => cases hg; simp
    | 2 => cases hh; simp
    | 3 => cases hh
    | i + 4 => cases hg
  · intro i g h hg; cases hg

theorem witness_EncodersTracked :
    Encoder.reset.valid = false ∧ feedStart.valid = true ∧ feedStart.saturated = false ∧
      feedStart.fine + (countDelta feedStart 3).natAbs * 87381 ≤ 18446744073709551615 ∧
      feedStart.excess + (countDelta feedStart 3).natAbs * 87381 ≤ 18446744073709551615 ∧
      countDelta feedStart 4294967280 < 0 ∧
      (18446744073709551615 - 9) + (countDelta { feedStart with fine := 18446744073709551606 } 3).natAbs * 1 =
        18446744073709551615 ∧
      positionFull.pos.flat.saturated = true ∧ positionFull.pos.flat.fine = 18446744073709551615 := by decide

/-- The feed at this fine position and reverse excess, its encoder mapped to slot 1, in this mode. -/
def feeding (fine excess : Nat) (m : Mode) : State :=
  let s := inMode m State.reset
  { s with
    sig := { s.sig with
             entries := s.sig.entries.set 0 { SigEntry.reset with slot := some 1, nodeKind := 2, stale := 1 } }
    pos := { s.pos with
             flat := { Encoder.reset with fine := fine, excess := excess, baseline := 278, valid := true } } }

/-- A reverse count beyond a REVERSE_LIMIT of 0 and one that a forward count takes back; an advance beyond the largest
position, and one up to it. -/
theorem witness_EncodersTracked_feed :
    (feedAccept 277 (feeding 9 0 .run)).cond .webReverse = true ∧
      (feedAccept 277 (feeding 9 0 .run)).fault.history.map (·.detail) = [541] ∧
      (feedAccept 280 (feeding 9 65536 .run)).cond .webReverse = false ∧
      (feedAccept 280 (feeding 18446744073709420544 0 .run)).fault.history.map (·.detail) = [811] ∧
      (feedAccept 280 (feeding 18446744073709420543 0 .run)).pos.flat.saturated = false := by decide +kernel

/-- A used frame in RUN whose feed count saturates the position. -/
theorem witness_EncodersTracked_frame :
    let s := feeding 18446744073709420544 0 .run
    let f : CycleFrame := { cycle := 9, speed := 0, slots := [commandSlot, sampleSlot false true 280] }
    s.ring.bypass = false ∧ f.wf = true ∧ elapsedFor s f.cycle = 1 ∧ reactQuiet s ∧ moving s ∧
      slotDamaged 1 (sampleSlot false true 280) = false ∧ (s.entry 0).toggle ≠ some false ∧
      isJump (s.par 4) (sinceGrown 1 s.pos.flat) 280 = false ∧ s.pos.flat.saturated = false ∧
      (after (.cycleFrame f) s).pos.flat.saturated = true ∧
      (after (.cycleFrame f) s).mode = { mode := .halting, step := 0, cause := .positionRange } := by
  unfold reactQuiet moving; decide +kernel

/-- A count 1,000 above the baseline one cycle later is accepted and one of 1,001 is a jump (MAX_DELTA 1,000), which
with a stale limit of 1 is the loss of the signal too; and an advance at the largest position that the reverse excess
absorbs, and one that it does not. -/
theorem witness_EncodersTracked_jump :
    let s := feeding 9 0 .run
    let f (x : Slot) : CycleFrame := { cycle := 9, speed := 0, slots := [commandSlot, x] }
    let jumped := after (.cycleFrame (f (sampleSlot false true 1279))) s
    let full (excess : Nat) (raw : Word) : Encoder :=
      acceptSample 65536 (feeding 18446744073709551615 excess .run).pos.flat raw
    isJump (s.par 4) (sinceGrown 1 s.pos.flat) 1278 = false ∧ isJump (s.par 4) (sinceGrown 1 s.pos.flat) 1279 = true ∧
      slotDamaged 1 (sampleSlot false true 1279) = false ∧
      jumped.pos.flat = { s.pos.flat with since := 1, jumpOpen := true } ∧
      jumped.fault.history.map (fun h => (h.detail, h.subject)) =
        [(611, .signal 0), (641, .signal 0)] ∧
      encoderJump 0 jumped = jumped ∧
      (after (.cycleFrame (f (sampleSlot false false 1278))) s).pos.flat.baseline = 1278 ∧
      (after (.cycleFrame (f (sampleSlot false false 1279))) s).pos.flat = { s.pos.flat with since := 1 } ∧
      ((full 131072 280).saturated, (full 131072 280).excess) = (false, 0) ∧ (full 131072 281).saturated = true := by
  decide +kernel

theorem witness_GovernedSpeeds :
    ((govern 30000 1 governorFrame).gov.limits.stroke = some 6000) ∧
      governorFrame.gov.conv < (govern 30000 1 governorFrame).gov.conv ∧
      (govern 2000 1 governorFrame).gov.target < governorFrame.gov.conv ∧
      (govern 5200 1 governorFrame).gov.target = governorFrame.gov.conv := by decide +kernel

theorem witness_PatternTotals_ramp :
    2 ≤ 2 ∧ 1 < 2 ∧ 0 ≤ ((1250 : Int) - 800) * 1 ∧ ¬ 0 ≤ ((800 : Int) - 1250) * 1 := by decide

/-- The plan of `beforeSplice` with the segment at the blade walked and the blade this far. -/
def walked (m : Mode) (blade : Nat) : State :=
  let s := inMode m (atBladePos blade beforeSplice)
  { s with fold := { s.fold with seg := s.fold.seg.map fun g => { g with walk := none } } }

/-- The walked plan without its first GAP: a PANEL of flat start 2,104,000 comes to the blade. -/
def panelNext (m : Mode) (blade : Nat) : State :=
  let s := walked m blade
  let k : SegKind := .panel { order := 5121, remake := 0, slot := 7, cls := 4 }
  { s with
    plan := { s.plan with segs := [{ serial := 302, kind := k, start := 2104000, len := 40000, anchored := false }] } }

/-- A WALKING panel; a PANEL before and at its flat start, in RUN and out of it; a GAP; the empty plan before and at its
end; the table not SET. -/
theorem witness_SegmentsHandedOver :
    (inMode .hold panelAtBlade).mode.mode ≠ .run ∧
      ((handOver (inMode .hold panelAtBlade)).fold.seg.map fun g => isPanel g.kind) = some true ∧
      panelAtBlade.bladeDone = false ∧ (walked .run 2104000).bladeDone = true ∧
      (handStep (panelNext .run 2103999)).isSome = false ∧
      ((handStep (panelNext .run 2104000)).bind (·.bladePanel)).map (·.order) = some 5121 ∧
      (handStep (panelNext .hold 2104000)).isSome = false ∧
      ((handStep (panelNext .hold 2104001)).bind (·.fold.seg)).map (fun g => (g.kind, g.len)) = some (.gap, 1) ∧
      (panelNext .hold 2104001).plan.segs.length ≤ 15 ∧
      ((handStep (walked .run 2104000)).bind (·.fold.seg)).map (·.kind) = some .gap ∧
      (handStep lineSet).isSome = true ∧ lineSet.bladeDone = true ∧ lineSet.plan.segs = [] ∧
      lineSet.planEnd ≤ lineSet.pBlade ∧ State.reset.table.state ≠ .set ∧ lineSet.table.state = .set ∧
      (∀ g ∈ lineSet.plan.segs, 0 < g.len) := by decide +kernel

/-- The panel's set-map record counts the fold; 20 wu late it is not marked, 21 wu late it is (LATE_WU 20). -/
theorem witness_StrokeIssued_record :
    ((atBladePos 1003500 panelAtBlade).findRec 7).isSome = true ∧ panelAtBlade.par 20 = 20 ∧
      ((issueTest 41 (atBladePos 1003520 panelAtBlade)).findRec 7).map (fun r => (r.folds, r.rejects)) = some (1, 0) ∧
      ((issueTest 41 (atBladePos 1003521 panelAtBlade)).findRec 7).map (fun r => (r.folds, r.maxLate, r.rejects)) =
        some (1, 21, 32#8) ∧
      (issueTest 41 (atBladePos 1003521 panelAtBlade)).fault.history.map (·.detail) = [511] := by decide +kernel

/-- Fold 0 due at exactly its fire position, in RUN; and each of the five conditions failing alone. -/
theorem witness_StrokeIssued :
    let s := atBladePos 1003500 panelAtBlade
    (∃ g w f, s.fold.seg = some g ∧ g.walk = some w ∧ w.pending = some f ∧ w.status = .walking ∧ f.fire ≤ s.pBlade ∧
        s.fold.stroke = none ∧ s.fold.synced = true ∧ s.fold.status = some .ready ∧ s.mode.mode = .run) ∧
      State.reset.walking = false ∧
      (∃ w f, (atBladePos 1003499 panelAtBlade).walk = some w ∧ w.pending = some f ∧
        (atBladePos 1003499 panelAtBlade).pBlade < f.fire) ∧
      ({ s with fold := { s.fold with stroke := some { serial := 41, panel := 7, age := 0 } } } : State).fold.stroke ≠
        none ∧
      ({ s with fold := { s.fold with synced := false } } : State).fold.synced = false ∧
      ({ s with fold := { s.fold with status := some .parked } } : State).fold.status ≠ some .ready ∧
      ((inMode .thread s).mode.mode ≠ .run ∧ (inMode .thread s).mode.mode ≠ .hold ∧
        (inMode .thread s).mode.mode ≠ .drain) := by
  refine ⟨⟨_, _, _, rfl, rfl, rfl, ?_⟩, ?_, ⟨_, _, rfl, rfl, ?_⟩, ?_⟩ <;> decide +kernel

/-- Fold 0 of panel 3107 due, with serial 45 carried and BLADE_STATE mapped to slot 1. -/
def resyncing : State :=
  let s := atBladePos 1003503 panelAtBlade
  { s with
    fold := { s.fold with held := 45 }
    sig := { s.sig with
             entries := s.sig.entries.set 2 { SigEntry.reset with slot := some 1, nodeKind := 2, stale := 1 } } }

/-- A frame whose BLADE_STATE reports READY and done-serial 100, which neither 45 nor 44 is: the held serial comes to
100, and the stroke issued in that frame takes serial 46, one more than BLADE_CMD carried before (R45, R48). -/
theorem witness_StrokeIssued_frame :
    let f : CycleFrame := { cycle := 9, speed := 0, slots := [commandSlot, sampleSlot false true 100] }
    let t := after (.cycleFrame f) resyncing
    resyncing.ring.bypass = false ∧ f.wf = true ∧ elapsedFor resyncing f.cycle = 1 ∧
      (takeBladeState .ready 100 resyncing).fold.held = 100 ∧
      t.fold.stroke = some { serial := 46, panel := 7, age := 0 } ∧ t.fold.held = 46 ∧ t.fold.done = 100 := by decide +kernel

/-- The walks of a pattern from its first fold on, n folds left behind. -/
def walkOf (p : PatSlot) (b : Nat) : Nat → Walk
  | 0 => startWalk p 12 b
  | n + 1 =>
    match (walkOf p b n).pending with
    | some f => leaveFold (closedEntries p) b f (walkOf p b n)
    | none => walkOf p b n

/-- The box pleat at flat start 1,000,000: its first fold stands behind a SPACE and a GROUP_BEGIN of 4 repeats; behind
its second fold a SPACE and the GROUP_END go back to the first; behind its eighth the walk has ENDED. -/
theorem witness_StrokeIssued_walk :
    let p := closedSlotOf boxPleat
    let es := closedEntries p
    let u := walkOf p 1000000 0
    es[0]? = some (.space 3000) ∧ es[1]? = some (.groupBegin 4) ∧ es[2]? = some (.fold .left 2000 1000) ∧
      es[4]? = some (.space 500) ∧ es[5]? = some .groupEnd ∧ (u.entry, u.base, u.out, u.n) = (2, 3000, 3000, 8) ∧
      u.stack = [{ begin := 1, left := 3 }] ∧
      u.pending = some { k := 0, dir := .left, depth := 1000, pitch := 2000, fire := 1005000, last := false } ∧
      (walkOf p 1000000 2).stack = [{ begin := 1, left := 2 }] ∧
      (walkOf p 1000000 2).pending =
        some { k := 2, dir := .left, depth := 1000, pitch := 2000, fire := 1013500, last := false } ∧
      (walkOf p 1000000 7).stack = [{ begin := 1, left := 0 }] ∧
      (walkOf p 1000000 7).pending.map (fun f => (f.dir, f.last)) = some (.right, true) ∧
      (walkOf p 1000000 8).status = .ended ∧ (walkOf p 1000000 8).pending = none := by decide +kernel

/-- The three walks from the start of the box pleat to its first fold, each passing one item on to the next. -/
theorem witness_StrokeIssued_passes :
    let es := closedEntries (closedSlotOf boxPleat)
    let x : Walk :=
      { slot := 12, n := 8, status := .walking, entry := 0, stack := [], ramp := 0, k := 0, base := 0, out := 0,
        folds := 0, maxLate := 0, flatDone := 0, outDone := 0, pending := none }
    let y : Walk := { x with base := 3000, out := 3000, entry := 1 }
    let z : Walk := { y with stack := [{ begin := 1, left := 3 }], entry := 2 }
    (es[x.entry]? = some (.space 3000) ∧
        y = { x with base := x.base + 3000, out := x.out + 3000, entry := x.entry + 1 }) ∧
      (es[y.entry]? = some (.groupBegin 4) ∧
        z = { y with stack := { begin := y.entry, left := 4 - 1 } :: y.stack, entry := y.entry + 1 }) ∧
      es[z.entry]? = some (.fold .left 2000 1000) ∧ [x, y, z].length ≤ 33554432 := by decide +kernel

/-- The folds of panel 3107's RAMP as 03 Fold Scheduler works them out: depths, fire positions and LAST. -/
theorem test_ramp_walked :
    (List.range 5).map (fun n =>
        (walkOf (closedSlotOf graduated) 1000000 n).pending.map fun f => (f.k, f.depth, f.fire, f.last)) =
      [some (0, 800, 1003500, false), some (1, 913, 1006600, false), some (2, 1025, 1009926, false),
       some (3, 1138, 1013476, false), some (4, 1250, 1017252, true)] := by decide +kernel

theorem witness_CellsAgedAndShifted : 0 < oneShift.par 8 ∧ oneShift.heat.cells ≠ [] ∧ 0 < 6 := by decide

theorem witness_CommandWordsSent_vent :
    exec (.fullReset 1 true true) purging = .next (after (.fullReset 1 true true) purging) ∧
      (∃ e ∈ purging.react.entries, e.state = .purge) := by
  refine ⟨rfl, ?_⟩; decide

/-- A waste record whose tail is exactly at L_CUT, then one wu short of it; a PANEL that owns no cell. -/
def readyToCut (k : SegKind) (setPos : Nat) : State :=
  { lineSet with
    plan := { lineSet.plan with
              setMap := [enterRec { serial := 1, kind := k, start := 0, len := 10, anchored := false } k 0 10] }
    pos := { lineSet.pos with conv := { lineSet.pos.conv with fine := 65536 * setPos } } }

theorem witness_OldestRecordCut :
    (∃ r, (readyToCut (.panel p3107) 200010).plan.setMap = [r] ∧ (readyToCut (.panel p3107) 200010).fold.seg = none ∧
        tailDistance (readyToCut (.panel p3107) 200010) r = ((readyToCut (.panel p3107) 200010).par 14 : Int) ∧
        r.cells = 0) ∧
      ∃ r, (readyToCut .gap 200009).plan.setMap = [r] ∧
        tailDistance (readyToCut .gap 200009) r < ((readyToCut .gap 200009).par 14 : Int) := by
  refine ⟨⟨_, rfl, ?_⟩, ⟨_, rfl, ?_⟩⟩ <;> decide

/-- Panel 3107 cut with a full log: the log keeps 32 entries and the discard flag is set; slot 12 and class 3 are named
once less. Its one cell was judged at an age of 4,000 cycles of 1 ms; the exposure saturates. -/
theorem witness_OldestRecordCut_panel :
    let s := withSlot 12 { closedSlotOf graduated with state := .locked, useCount := 1 }
      (withClass 3 { cotton with useCount := 2 } (readyToCut (.panel p3107) 200010))
    let s : State :=
      { s with
        plan := { s.plan with
                  log := fullLog.plan.log
                  setMap := s.plan.setMap.map fun r =>
                    { r with minAge := some 4000, maxAge := none, maxExposure := 20000000 } } }
    let t := cutTest s
    (t.plan.log.length, t.plan.discard, t.plan.divert, t.plan.setMap) = (32, true, false, []) ∧
      t.plan.log.getLast?.map (fun c => (c.minDwell, c.maxDwell, c.exposure)) = some (4000, 0, 16777215) ∧
      ((t.slot 12).state, (t.slot 12).useCount, (t.cls 3).useCount) = (.ready, 0, 1) := by decide +kernel

/-- Stroke 41 of panel 3107 in flight, aged so that STROKE_TIMEOUT (50) is reached. -/
def strokeInFlight : State :=
  { panelAtBlade with fold := { panelAtBlade.fold with stroke := some { serial := 41, panel := 7, age := 49 } } }

theorem witness_StrokeEnds :
    strokeInFlight.fold.synced = true ∧
      strokeInFlight.fold.stroke = some { serial := 41, panel := 7, age := 49 } ∧ strokeInFlight.par 19 = 49 + 1 := by
  decide +kernel

/-- BLADE_STATE mapped and about to be LOST; a done-serial not yet awaited, the one before the stroke's, an unexpected
one; a status of FAULT. -/
theorem witness_StrokeEnds_samples :
    let s := { strokeInFlight with
               sig := { strokeInFlight.sig with
                        entries :=
                          strokeInFlight.sig.entries.set 2 { SigEntry.reset with slot := some 4, state := .fresh } } }
    (s.entry 2).slot.isSome = true ∧ (s.entry 2).state ≠ .lost ∧ (s.entry 2).stale ≤ 1 ∧
      (after (.signalLoss 2) s).fold.status = none ∧ Fold.reset.synced = false ∧ panelAtBlade.fold.synced = true ∧
      panelAtBlade.fold.stroke = none ∧ (strokeInFlight.findRec 7).isSome = true ∧
      (takeBladeState .busy 40 s).fold.stroke = s.fold.stroke ∧
      ((takeBladeState .fault 40 s).findRec 7).map (·.rejects) = some 32#8 ∧
      (takeBladeState .ready 99 s).fold.held = 99 := by decide +kernel

/-- The change of roll to stand B in this sequencer state, the splicer synchronised. -/
def changing (st : SeqState) (paste cut : Bool) (age : Nat) : State :=
  { bothStands with
    mode := { bothStands.mode with mode := .run }
    roll := { bothStands.roll with
              standB := { bothStands.roll.standB with role := some .incoming, brake := false }
              state := st, incoming := some .b, synced := true, pasteSerial := 12, cutSerial := 7, pasteFlight := paste,
              cutFlight := cut, confirmAge := age, settleCount := 1999, matchTimer := 9999 } }

theorem witness_RollHandshakesEnd_paste :
    (changing .paste true false 199).roll.state = .paste ∧ (changing .paste true false 199).roll.pasteFlight = true ∧
      (changing .paste true false 199).roll.cutFlight = false ∧
      (changing .paste true false 199).par 39 = (changing .paste true false 199).roll.confirmAge + 1 ∧
      (changing .paste true false 199).par 39 ≤ 255 := by decide

theorem witness_RollHandshakesEnd_cut :
    (changing .cut false true 199).roll.state = .cut ∧ (changing .cut false true 199).roll.cutFlight = true ∧
      (changing .cut false true 199).roll.incoming = some .b ∧
      (changing .cut false true 199).activeStand = some (otherStand .b) ∧
      (changing .cut false true 199).roll.synced = true ∧ (changing .cut false true 199).roll.pasteFlight = false ∧
      (changing .cut false true 199).par 40 = (changing .cut false true 199).roll.confirmAge + 1 ∧
      (changing .cut false true 199).par 40 ≤ 255 := by decide

theorem witness_RollHandshakesEnd_timers :
    (changing .settle false false 0).roll.state = .settle ∧
      (changing .settle false false 0).par 41 = (changing .settle false false 0).roll.settleCount + 1 ∧
      (changing .settle false false 0).par 41 ≤ 65535 ∧ (changing .settle false false 0).roll.failed = false ∧
      (changing .prepare false false 0).roll.state = .prepare ∧
      (changing .prepare false false 0).roll.incoming = some .b ∧
      (changing .prepare false false 0).roll.matched = false ∧
      (changing .prepare false false 0).par 38 = (changing .prepare false false 0).roll.matchTimer + 1 ∧
      (changing .prepare false false 0).par 38 ≤ 65535 := by decide

/-- A paste confirmed: the cut is made with the next serial (R145). -/
theorem test_paste_confirm :
    let t := after (.pasteConfirm 12 7) (changing .paste true false 0)
    (t.roll.state, t.roll.cutSerial, t.roll.cutFlight) = (.cut, 8, true) := by decide +kernel
/-- A cut that times out: fault 441, and stand A stops in two steps (R146, R147). -/
theorem test_cut_timeout :
    let t := after .cutTimeout (changing .cut false true 199)
    (t.roll.state, t.roll.standA.role, t.roll.standA.steps, t.roll.standB.role) =
        (.settle, some .stopping, 2, some .active) ∧ t.fault.history.map (·.detail) = [441] := by decide +kernel
theorem test_settle_end : (after (.settleEnd 1) (changing .settle false false 0)).roll.state = .idle := by decide +kernel
theorem test_match_timeout :
    let t := after (.matchTimeout 1) (changing .prepare false false 0)
    (t.roll.state, t.roll.hold, t.roll.standB.steps) = (.idle, true, 3) ∧ t.fault.history.map (·.detail) = [421] := by
  decide +kernel

/-- Stand B STOPPING at this step of three in an ARMED change, in this mode, the ring mapped. -/
def stopping (step : Nat) (m : Mode) : State :=
  let s := inMode m (changing .armed false false 0)
  { s with
    sig := mappedTwo.sig
    roll := { s.roll with
              arm := true, standB := { s.roll.standB with role := some .stopping, step := step, steps := 3 } } }

/-- Step 2 in RUN and step 3 in HALT of a three-step stop, each at a used cycle frame (R148). -/
theorem witness_RollHandshakesEnd_stopping :
    let f := Instr.cycleFrame (twoSlots 9)
    (stopping 1 .run).ring.bypass = false ∧ (twoSlots 9).wf = true ∧ elapsedFor (stopping 1 .run) 9 = 1 ∧
      ((stopping 1 .run).stand .b).role = some .stopping ∧ ((stopping 1 .run).stand .a).role ≠ some .stopping ∧
      ((stopping 1 .run).roll.incoming = some .b ∧ (stopping 1 .run).roll.state = .armed) ∧
      ((after f (stopping 1 .run)).stand .b).step = 2 ∧ (after f (stopping 1 .run)).roll.arm = false ∧
      (stopping 2 .halt).mode.mode = .halt ∧
      ((after f (stopping 2 .halt)).stand .b) =
        { role := some .ready, diam := some 90000, speed := none, step := 0, steps := 0, brake := true } := by
  decide +kernel

/-- Entry 3 alone, purging with 5 cycles left. -/
def lastPurge : State :=
  modReaction 3 (fun e => { e with state := .purge, remaining := 5 }) threeReactions

theorem witness_ReactionsTriggeredAndPurged_end :
    (∃ p, lastPurge.react.entries[3]? = some p ∧ p.state = .purge ∧ p.remaining = 5 ∧ p.autoClear = false ∧
        p.modeAction = .halt) ∧ onePurge lastPurge ∧ moving lastPurge := by
  unfold onePurge moving
  exact ⟨⟨_, rfl, by decide⟩, by decide⟩

/-- These marks, with this mode action and PURGE_CYCLES of entry 3 and none of entry 0. -/
def triggering (marks : BitVec 16) (action : ModeAction) (purge : Nat) : State :=
  let s := modReaction 3 (fun e => { e with modeAction := action, purgeCycles := purge }) threeReactions
  let s := modReaction 0 (fun e => { e with modeAction := .none }) s
  { s with react := { s.react with marks := marks } }

/-- Entries 0, 3 and 5 due together without mode actions: entry 3 has the timer, and takes it from a purging entry 0;
entry 5 does not. Entry 3 due alone with PURGE_CYCLES 0 and HALT, then HOLD. A purge of 5 cycles after 4. -/
theorem witness_ReactionsTriggeredAndPurged :
    purgeOf (settle (triggering 83 .none 200)) = [(.waiting, 3000), (.purge, 200), (.waiting, 1000)] ∧
      (∀ p ∈ (triggering 83 .none 200).react.entries, p.modeAction = .none) ∧ onePurge (triggering 83 .none 200) ∧
      purgeOf (settle (modReaction 0 (fun e => { e with state := .purge, remaining := 9 }) (triggering 83 .none 200))) =
        [(.waiting, 9), (.purge, 200), (.waiting, 1000)] ∧
      purgeOf (settle (modReaction 0 (fun e => { e with state := .purge, remaining := 9 }) (triggering 80 .none 200))) =
        [(.purge, 9), (.idle, 0), (.waiting, 1000)] ∧
      purgeOf (settle (modReaction 0 (fun e => { e with state := .applied }) (triggering 0 .none 200))) =
        [(.idle, 0), (.idle, 0), (.idle, 0)] ∧
      (∀ (j : Nat) (q : ReactEntry), j < 8 → (triggering 1 .halt 0).react.entries[j]? = some q → j ≠ 3 →
        q.modeAction = .none) ∧
      moving (triggering 1 .halt 0) ∧
      (settle (triggering 1 .halt 0)).mode = { mode := .halting, step := 0, cause := .reaction 3 } ∧
      (settle (triggering 1 .hold 0)).mode.mode = .hold ∧ lastPurge.purgeHolder = some 3 ∧
      purgeOf (purgeCount 4 lastPurge) = [(.idle, 0), (.purge, 1), (.idle, 0)] := by
  unfold onePurge moving
  refine ⟨by decide +kernel, by decide +kernel, by decide +kernel, by decide +kernel, by decide +kernel,
    by decide +kernel, ?_, by decide +kernel⟩
  intro j q hj h hne
  match j with
  | 0 | 1 | 2 | 4 | 5 | 6 | 7 => cases h; rfl
  | 3 => exact absurd rfl hne
  | j + 8 => omega

/-- HALTING at its steps 2 and 3; DRAIN with nothing on the line, and with a panel at the blade. -/
theorem witness_HaltingAndDrainStep :
    let s (m : Mode) (n : Nat) : State := { mappedTwo with mode := { mode := m, step := n, cause := .request } }
    let f := Instr.cycleFrame (twoSlots 9)
    (haltingStep (s .halting 2)).mode.step = 3 ∧ (haltingStep (s .halting 3)).mode.mode = .halt ∧
      (s .halting 3).ring.bypass = false ∧ elapsedFor (s .halting 3) 9 = 1 ∧
      (after f (s .halting 3)).mode = { mode := .halt, step := 0, cause := .request } ∧ moving (s .drain 0) ∧
      reactQuiet (s .drain 0) ∧
      (after f (s .drain 0)).mode = { mode := .halting, step := 0, cause := .drainEnd } ∧
      (after f (inMode .drain panelAtBlade)).mode.mode = .drain ∧ reactQuiet (inMode .drain panelAtBlade) := by
  unfold moving reactQuiet; decide +kernel

/-- The line in WARMUP with panel 3107 at the blade and zone 1 at this reading; the default table has one zone. -/
def warming (reading : Nat) : State :=
  { inMode .warmup panelAtBlade with
    heat := { panelAtBlade.heat with zones := [some reading, none, none, none], stable := 999, warm := 599999 } }

/-- HALT with steam enabled and the standby timer at this count. -/
def standing (timer : Nat) (phase : StandbyPhase) : State :=
  { lineSet with heat := { lineSet.heat with steam := true, standbyTimer := timer, phase := phase } }

theorem witness_CountsEnd_heat :
    ((warming 1550).mode.mode = .warmup ∧ reactQuiet (warming 1550) ∧ zonesInBand (warming 1550) = true ∧
        (warming 1550).par 28 = (warming 1550).heat.stable + 1 ∧ (warming 1550).par 28 ≤ 16777215) ∧
      (zonesInBand (warming 1551) = false ∧ 1 ≤ (warming 1551).par 28 ∧
        (warming 1551).par 29 = (warming 1551).heat.warm + 1 ∧ (warming 1551).par 29 ≤ 16777215) ∧
      ((standing 599999 .counting).mode.mode = .halt ∧ (standing 599999 .counting).heat.steam = true ∧
        (standing 599999 .counting).purgeActive = false ∧ (standing 599999 .counting).steamRestriction = .keep ∧
        (standing 599999 .counting).heat.phase = .counting ∧ (standing 599999 .counting).par 30 = 599999 + 1 ∧
        599999 + 1 < (standing 599999 .counting).par 30 + (standing 599999 .counting).par 31) ∧
      ((standing 609999 .warning).heat.phase ≠ .standby ∧
        (standing 609999 .warning).par 30 + (standing 609999 .warning).par 31 = 609999 + 1) := by
  unfold reactQuiet
  refine ⟨?_, ?_, ?_, ?_⟩ <;> decide +kernel

/-- The warm class of panel 3107 at the blade, and of a plan and a blade without a PANEL; its zone at either end of the
band, just outside, and without a reading (R108). -/
theorem witness_CountsEnd_zones :
    warmClass (warming 1550) = some 3 ∧ warmClass lineSet = none ∧ zonesInBand lineSet = false ∧
      ([1449, 1450, 1550, 1551].map fun v => zonesInBand (warming v)) = [false, true, true, false] ∧
      zonesInBand { warming 1550 with heat := { (warming 1550).heat with zones := [none, none, none, none] } } = false ∧
      (after (.warmupFinish 1) (warming 1550)).mode.mode = .run := by decide +kernel

/-- BOX_PRESS mapped, its stale counter at 1, and the error window one cycle short of its end. -/
def aboutToStale : State :=
  { mappedTwo with
    sig := { mappedTwo.sig with
             entries := mappedTwo.sig.entries.modify 7 fun g => { g with state := .fresh, stale := 1 } }
    ring := { mappedTwo.ring with window := 999, notice := 0 } }

theorem witness_CountsEnd_supervision :
    ((aboutToStale.entry 7).slot.isSome = true ∧ (aboutToStale.entry 7).state ≠ .lost ∧
        (aboutToStale.entry 7).stale ≤ 1) ∧ aboutToStale.par 48 = aboutToStale.ring.window + 1 ∧
      aboutToStale.ring.notice = 0 := by decide

theorem test_signal_loss :
    (after (.signalLoss 7) aboutToStale).cond .signalLost = true ∧
      (after (.signalLoss 7) aboutToStale).fault.history.map (·.subject) = [.signal 7] := by decide +kernel

/-- ARMED with a waiting reservation, stand B READY. -/
def waiting : State :=
  { bothStands with
    mode := { bothStands.mode with mode := .run }
    roll := { bothStands.roll with state := .armed, incoming := some .b, winStatus := .pending } }

/-- A plan of n movable PANELs that ends just beyond the threshold: the WINDOW is appended, so that 27 make 28 records
and 28 make 29. -/
def fullPlan (n : Nat) : State :=
  { waiting with
    plan := { waiting.plan with
              segs := (List.range n).map fun i =>
                { serial := BitVec.ofNat 16 i, kind := .panel p3107, start := (300000 / n + 20) * i,
                  len := 300000 / n + 20, anchored := false } } }

theorem witness_ChangesArmedAndCommitted_reservation :
    waiting.roll.state = .armed ∧ waiting.roll.winStatus = .pending ∧ reactQuiet waiting ∧
      waiting.activeStand = some (otherStand .b) ∧ (waiting.stand .b).role = some .ready ∧
      (placeWindow (fullPlan 27)).2.plan.segs.length = 28 ∧ (placeWindow (fullPlan 28)).2.plan.segs.length = 29 := by
  unfold reactQuiet; decide +kernel

/-- A plan that ends below the threshold, and one that ends beyond it, with no movable record at or beyond it. -/
theorem witness_ChangesArmedAndCommitted_appended :
    (waiting.planEnd < waiting.pUnwind + waiting.par 43 ∧ waiting.movable = [] ∧ planContiguous waiting) ∧
      ((fullPlan 27).pUnwind + (fullPlan 27).par 43 < (fullPlan 27).planEnd ∧
        ∀ g ∈ (fullPlan 27).movable, g.start < (fullPlan 27).pUnwind + (fullPlan 27).par 43) ∧
      gapsMerged waiting ∧ waiting.serials.length < 65535 := by
  refine ⟨⟨by decide +kernel, by decide +kernel, ⟨?_, ?_, ?_⟩⟩, ⟨by decide +kernel, by decide +kernel⟩, ?_,
    by decide +kernel⟩
  · intro i g h; cases h
  · intro g h; cases h
  · rfl
  · intro i g h hg; cases hg

/-- P_unwind 100,000 and PREP_DIST: a GAP to the threshold, then the WINDOW (R74). -/
theorem test_window_reserved :
    planOf (after .windowReservation waiting) =
      [(1, 0, 100000 + waiting.par 43), (2, 100000 + waiting.par 43, waiting.par 44)] := by decide +kernel

/-! ### The requests' hypotheses -/

theorem witness_ReadsAnswer : State.reset.ring.bypass = false := rfl

theorem witness_ViewsRead :
    State.reset.ring.bypass = false ∧ (req [6, 0, 0]).args = [6, 0, 0] ∧ (req []).args.length ≠ 3 := by decide

theorem witness_ReadsAnswer_slots : (req [31, 0, 0]).args = [31, 0, 0] ∧ (31#32).toNat ≤ 31 := by decide

theorem witness_LineParamsWritten :
    State.reset.mode.mode = .halt ∧ State.reset.plan.segs = [] ∧ State.reset.plan.setMap = [] ∧
      State.reset.fold.seg = none ∧ (req [1, 4000]).args = [((1 : Word), (4000 : Word))].flatMap (fun p => [p.1, p.2]) ∧
      paramInRange 1 4000 = true ∧ paramInRange 50 1 = true ∧ lineSet.table.state = .set ∧ lineSet.plan.segs = [] := by
  decide

/-- The edit image with TRIP_ESTOP_MODE EDGE, REVERSE_LIMIT 0 and ZONE_LIMIT 2,000; ESTOP asserted; an excess of one wu
and a fraction; zone 1 above the limit; stand A ACTIVE at CORE_DIAM. -/
def applying : State :=
  { bothStands with
    table := { bothStands.table with state := .edit, edit := (paramResets.set 48 1).set 25 2000 }
    sig := { bothStands.sig with estop := { asserted := true, latch := true } }
    pos := { bothStands.pos with flat := { bothStands.pos.flat with excess := 1 } }
    heat := { bothStands.heat with zones := [some 2001, none, none, none] }
    roll := { bothStands.roll with standA := { bothStands.roll.standA with diam := some 10000 } } }

theorem witness_LineTableApplied_blocks :
    let t := after (.applyLine (req [])) applying
    failedCheck applying.table.edit = none ∧ applying.table.state ≠ .set ∧ applying.mode.mode = .halt ∧
      (t.cond .webReverse, t.cond .zoneOver, t.cond .webEnd, t.cond .estop) = (true, true, true, false) ∧
      t.par 49 ≠ applying.par 49 ∧ t.par 50 = applying.par 50 ∧ t.sig.estop = { asserted := true, latch := false } ∧
      givenRole (applying.stand .a).role = true ∧ givenRole (applying.stand .b).role = false ∧
      (t.stand .b).role = some .ready := by decide +kernel

theorem witness_LineTableApplied :
    lineSet.table.state = .set ∧ State.reset.table.state ≠ .set ∧ State.reset.mode.mode = .halt ∧
      failedCheck State.reset.table.edit = none ∧ failedCheck (paramResets.set 21 50001) = some 8 := by decide +kernel

theorem witness_SignalsMapped :
    State.reset.sig.entries.length = 27 ∧ State.reset.mode.mode = .halt ∧
      (req [13, 63, 255, 255]).args = [13, 63, 255, 255] ∧ (req [26, 64, 0, 0]).args = [26, 64, 0, 0] ∧
      (∀ j, j < 27 → (State.reset.entry j).slot ≠ some 63) := by decide

theorem witness_ClassesWritten :
    (req [15, 1, 100, 100, 600000, 200, 60000, 2500, 0, 0, 0]).args =
        [15, 1, 100, 100, 600000, 200, 60000, 2500, 0, 0, 0] ∧ (State.reset.cls 15).useCount = 0 ∧
      0 < ((withClass 15 { cotton with useCount := 1 } State.reset).cls 15).useCount := by decide

theorem witness_SlotsLoaded :
    (beforeSplice.slot 7).state = .locked ∧ (panelAtBlade.slot 12).state = .ready ∧
      ((withSlot 5 (openSlotOf boxPleat) State.reset).slot 5).state = .opened ∧ (State.reset.slot 31).state = .free := by
  decide +kernel

theorem witness_SlotsLoaded_entries :
    (req [5, 62, 1, 2, 3, 4]).args = 5 :: 62 :: [((1 : Word), (2 : Word)), (3, 4)].flatMap (fun e => [e.1, e.2]) ∧
      (62#32).toNat + 2 - 1 ≤ 63 ∧ 63 < (63#32).toNat + 2 - 1 ∧
      ((withSlot 5 (openSlotOf []) State.reset).slot 5).state = .opened ∧ (State.reset.slot 5).state ≠ .opened ∧
      (req []).args.length < 4 := by decide

theorem witness_SlotsClosed :
    (openSlotOf boxPleat).state = .opened ∧ closeCheck (openSlotOf boxPleat) 7 (wordSum boxPleat 7) = none ∧
      closeCheck (openSlotOf boxPleat) 64 0 = some (1, 7) := by decide +kernel

/-- A view with a panel at the blade, with one in the plan only, and with none; reactions in force with a cap. -/
theorem witness_ViewImagesLaidOut :
    ((viewImage 0 State.reset).length, (viewImage 1 panelAtBlade).length, (viewImage 1 State.reset).length,
        (viewImage 2 State.reset).length, (viewImage 3 State.reset).length, (viewImage 4 State.reset).length) =
        (19, 31, 31, 3, 22, 26) ∧
      ((viewImage 5 State.reset).length, (viewImage 6 State.reset).length) = (18, 19) ∧
      warmClass panelAtBlade = some 3 ∧ State.reset.bladePanel = none ∧
      ({ beforeSplice with fold := { beforeSplice.fold with seg := none } } : State).bladePanel = none ∧
      warmClass { beforeSplice with fold := { beforeSplice.fold with seg := none } } = some 4 ∧
      purging.speedCap = some 2000 ∧ purging.purgeHolder = some 0 ∧ guardApplied.inhibited = true ∧
      modeRestriction guardApplied = .halt := by decide +kernel

/-- Slot 12 READY, class 3 defined, nothing planned. -/
def readyToPlan : State := withSlot 12 (closedSlotOf graduated) (withClass 3 cotton lineSet)

theorem witness_PanelsPlanned :
    (req [65535, 12, 3]).args = [65535, 12, 3] ∧ readyToPlan.table.state = .set ∧ (readyToPlan.slot 12).state = .ready ∧
      (readyToPlan.cls 3).isDefined = true ∧ slotTotal (·.dMax) (readyToPlan.slot 12) ≤ readyToPlan.par 17 ∧
      unfitZone readyToPlan (readyToPlan.cls 3) = none ∧ 2 * readyToPlan.par 8 ≤ slotTotal (·.o) (readyToPlan.slot 12) ∧
      readyToPlan.livePanels = [] ∧
      (appendPanel { order := 65535, remake := 0, slot := 12, cls := 3 } readyToPlan).plan.segs.length ≤ 24 := by
  decide +kernel

/-- Classes 3 and 4 compatible, 3 and 9 not; the preceding panel in the plan, at the blade, in the set map and none; a
slot at the use counts 0, 1 and 2. -/
theorem witness_PanelsPlanned_separation :
    compatible beforeSplice 3 4 = true ∧ separation beforeSplice 3 4 = 5000 ∧ separation beforeSplice 3 9 = 121875 ∧
      (precedingPanel beforeSplice.plan.segs beforeSplice).map (fun p => (p.1.order, p.2)) = some (5122, 2300875) ∧
      (precedingPanel (beforeSplice.plan.segs.take 1) beforeSplice).map (fun p => (p.1.order, p.2)) =
        some (5120, 2104000) ∧
      (precedingPanel [] { beforeSplice with fold := { beforeSplice.fold with seg := none } }).map (·.1.order) =
        some 5120 ∧
      (precedingPanel [] State.reset).isNone = true ∧ (slotRaised (readyToPlan.slot 12)).state = .locked ∧
      (slotLowered (slotRaised (slotRaised (readyToPlan.slot 12)))).state = .locked ∧
      (slotLowered (slotRaised (readyToPlan.slot 12))).state = .ready := by decide +kernel

theorem witness_PanelsPlanned_gaps : gapsMerged readyToPlan := by intro i g h hg; cases hg

theorem witness_PanelsCancelled :
    (req [5122]).args = [5122] ∧ separationBar 3 beforeSplice = none ∧
      (beforeSplice.plan.segs[3]?).map (fun g => panelOf g.kind) =
        some (some { order := 5122, remake := 0, slot := 7, cls := 9 }) := by decide +kernel

theorem witness_PanelsAborted :
    State.reset.bladePanel = none ∧ panelAtBlade.bladePanel = some p3107 ∧ panelAtBlade.walking = true ∧
      (∃ g x, panelAtBlade.fold.seg = some g ∧ panelAtBlade.findRec g.serial = some x) ∧
      (abortWalk .aborted panelAtBlade).bladePanel = some p3107 ∧
      (abortWalk .aborted panelAtBlade).walking = false := by
  refine ⟨rfl, rfl, ?_, ⟨_, _, rfl, rfl⟩, ?_, ?_⟩ <;> decide +kernel

theorem witness_SetModeAnswers :
    (req [0]).args = [0] ∧ modeOfWord 6 = some .drain ∧ (inMode .halting lineSet).mode.mode = .halting ∧
      modeOfWord 0 = some lineSet.mode.mode ∧ moving (inMode .drain lineSet) ∧
      transitionAllowed .hold .run = true ∧ transitionAllowed .run .hold = true ∧
      reactQuiet (inMode .hold panelAtBlade) ∧
      warmClass (inMode .hold panelAtBlade) ≠ none ∧ zonesInBand (inMode .hold panelAtBlade) = false ∧
      transitionAllowed .thread .warmup = true := by
  unfold moving reactQuiet; decide +kernel

/-- The table SET, stand A ACTIVE and present, and every signal the entry checks require mapped and FRESH. -/
def checkedLine : State :=
  let fresh (i : Nat) : SigEntry := { SigEntry.reset with slot := some i, state := .fresh, stale := 1 }
  { bothStands with sig := { bothStands.sig with entries := (List.range 27).map fresh } }

theorem witness_SetModeAnswers_allowed :
    failedEntryCheck .thread checkedLine = none ∧ transitionAllowed checkedLine.mode.mode .thread = true ∧
      reactQuiet checkedLine := by
  unfold reactQuiet; decide +kernel

/-- HALT is left with the standby phase ended; RUN is left with PLAN_EMPTY inactive; RUN is entered from HOLD with the
hand-over test, which takes the IDLE_GAP due. -/
theorem witness_SetModeAnswers_entries :
    let run := inMode .run (setCond .planEmpty true lineSet)
    let thread := after (.setMode (req [2])) checkedLine
    let hold := after (.setMode (req [5])) run
    (checkedLine.heat.phase, thread.mode.mode, thread.heat.phase) = (.counting, .thread, .none) ∧
      (run.cond .planEmpty, hold.mode.mode, hold.cond .planEmpty) = (true, .hold, false) ∧
      (after (.setMode (req [4])) (inMode .hold lineSet)).fold.seg.map (·.kind) = some .gap ∧
      (after (.setMode (req [4])) (inMode .hold lineSet)).cond .planEmpty = true := by decide +kernel

theorem witness_LineResetClears :
    (req []).args = [] ∧ panelAtBlade.mode.mode ≠ .halt ∧ (inMode .halt panelAtBlade).mode.mode = .halt := by
  decide +kernel

theorem witness_RollRequestsTaken :
    (bothStands.mode.mode = .halt ∧ bothStands.roll.state = .idle ∧ bothStands.roll.standA.role ≠ some .stopping ∧
        bothStands.roll.standB.role ≠ some .stopping ∧ bothStands.present .b = true) ∧
      (reactQuiet (inMode .hold bothStands) ∧ (inMode .hold bothStands).activeStand = some (otherStand .b) ∧
        ((inMode .hold bothStands).stand .b).role = some .ready) ∧ waiting.roll.state = .armed := by
  unfold reactQuiet; decide

theorem test_set_active_stand :
    let t := after (.setActiveStand (req [1])) bothStands
    (t.roll.standA.role, t.roll.standB.role) = (some .notReady, some .active) := by decide +kernel
theorem test_start_and_cancel_change :
    (after (.startRollChange (req [])) (inMode .hold bothStands)).roll.state = .armed ∧
      (after (.cancelRollChange (req [])) waiting).roll.hold = true ∧
      answer (after (.cancelRollChange (req [])) bothStands) = some (2, 28, 0) := by decide +kernel

theorem witness_ReactionsWrittenAndAcknowledged :
    (req [7, 1, 65535, 3, 2, 100000, 3, 65535, 1, 1]).args = [7, 1, 65535, 3, 2, 100000, 3, 65535, 1, 1] ∧
      State.reset.react.entries.length = 8 ∧ (State.reset.reaction 7).state = .idle ∧
      (∃ p, (modReaction 7 (fun e => { e with state := .applied }) State.reset).react.entries[7]? = some p ∧
        p.state = .applied ∧ p.trigger &&& State.reset.react.marks = 0) := by
  refine ⟨rfl, rfl, rfl, ⟨_, rfl, ?_⟩⟩; decide

theorem witness_ReactionsWrittenAndAcknowledged_others :
    ∀ j q, (modReaction 7 (fun e => { e with state := .applied }) State.reset).react.entries[j]? = some q → j ≠ 7 →
      q.enabled = false ∧ q.state = .idle := by
  intro j q h hj
  match j with
  | 0 => cases h; decide
  | 1 => cases h; decide
  | 2 => cases h; decide
  | 3 => cases h; decide
  | 4 => cases h; decide
  | 5 => cases h; decide
  | 6 => cases h; decide
  | 7 => exact absurd rfl hj
  | j + 8 => cases h

theorem test_write_reaction_enabled_empty :
    answer (after (.writeReaction (req [0, 1, 0, 1, 0, 0, 0, 0, 0, 0])) State.reset) = some (2, 4, 2) := by decide +kernel

theorem witness_TripsFollowInputs :
    State.reset.ring.bypass = false ∧ (req [2]).args = [2] ∧ (2#32).toNat ≤ 2 ∧ (2 : Word) ≠ 1 ∧ (2 : Word) ≠ 0 ∧
      State.reset.par 49 = 0 ∧ threeReactions.par 50 = 1 := by decide

theorem witness_RecordsCollected :
    (req [7, 1]).args = [7, 1] ∧ (req []).args.length ≠ 2 ∧ (7 < (8 : Word).toNat) := by decide

theorem witness_RecordsCollected_faults :
    (req [15, 3]).args = [15, 3] ∧ (req []).args.length ≠ 2 ∧ 15 < (16 : Word).toNat := by decide

theorem test_read_faults_newest :
    words 2 (after (.readFaults (req [0, 1])) fifteenFaults) =
      some [word (15 + 256 + 65536 * 64), word (731 + 65536)] := by decide +kernel

theorem witness_RecordsCollected_cleared : (req []).args = [] ∧ reactQuiet fifteenFaults := by
  unfold reactQuiet; decide

/-! ### 07 Roll Change: a windowed change -/

/-- The plan of the worked example, P_blade 3,010,000, stand A down to 29,995. -/
def windowed : State :=
  let id (o : Nat) : PanelId := { order := o, remake := 0, slot := 7, cls := 3 }
  let s := withPar 43 30000 (withPar 36 50 (withPar 37 3 (inMode .run (atBladePos 3010000 bothStands))))
  { s with
    roll := { s.roll with
              standA := { s.roll.standA with diam := some 29995 }
              standB := { s.roll.standB with diam := some 150000 }
              synced := true, pasteSerial := 18, cutSerial := 7 }
    fold := { s.fold with
              seg := some { serial := 100, kind := .panel (id 7001), start := 3000000, len := 150000, walk := none } }
    plan := { s.plan with
              counter := 104
              segs := [{ serial := 101, kind := .gap, start := 3150000, len := 5000, anchored := false },
                       { serial := 102, kind := .panel (id 7002), start := 3155000, len := 120000, anchored := false },
                       { serial := 103, kind := .gap, start := 3275000, len := 5000, anchored := false },
                       { serial := 104, kind := .panel (id 7003), start := 3280000, len := 80000, anchored := false }] } }

/-- After arming; at the commit; matched at the paste position. -/
def armedAt : State := rollJudge 1 windowed
def committedAt : State := rollJudge 1 (atBladePos 3020000 armedAt)
def matchedAt (p : Nat) : State :=
  let s := atBladePos p committedAt
  { s with roll := { s.roll with matched := true } }

theorem test_arming :
    planOf armedAt =
        [(105, 3150000, 20000), (101, 3170000, 5000), (102, 3175000, 120000), (103, 3295000, 5000),
         (104, 3300000, 80000)] ∧
      (armedAt.roll.state, armedAt.roll.winStatus, armedAt.roll.incoming) = (.armed, .reserved, some .b) := by
  decide +kernel
theorem test_commit :
    (committedAt.roll.state, committedAt.roll.winStatus, committedAt.roll.pastePos) =
        (.prepare, .committed, some 3155000) ∧
      committedAt.roll.standB.role = some .incoming ∧ rollJudge 1 (atBladePos 3019999 armedAt) =
        atBladePos 3019999 armedAt := by decide +kernel
theorem test_paste :
    let t := matchAndPaste (matchedAt 3055002)
    planOf t =
        [(101 + 5, 3150000, 5002), (107, 3155002, 5000), (108, 3160002, 14998), (102, 3175000, 120000),
         (103, 3295000, 5000), (104, 3300000, 80000)] ∧
      (t.roll.state, t.roll.pasteSerial, t.roll.winStatus) = (.paste, 19, .none) := by decide +kernel
theorem test_missed_window :
    let t := rollJudge 1 (atBladePos 3060003 committedAt)
    planOf t =
        [(105, 3150000, 25000), (102, 3175000, 120000), (106, 3295000, 20000), (103, 3315000, 5000),
         (104, 3320000, 80000)] ∧
      (t.roll.state, t.roll.missCount, t.roll.standB.steps) = (.armed, 1, 3) ∧
      t.fault.history.map (·.detail) = [411] := by decide +kernel

/-- The first movable record of the windowed plan stands beyond P_unwind + PREP_DIST, the GAPs of it not together. -/
theorem witness_ChangesArmedAndCommitted_inserted :
    (∃ g, windowed.movable[0]? = some g ∧ windowed.pUnwind + windowed.par 43 ≤ g.start) ∧
      windowed.serials.length < 65535 ∧ (placeWindow windowed).1 = 105 ∧
      (∃ g ∈ (placeWindow windowed).2.plan.segs, g.serial = 105 ∧ g.kind = .window ∧ g.anchored = false ∧
        g.start = windowed.planOrigin ∧ g.len = windowed.par 44) := by
  refine ⟨⟨_, rfl, by decide +kernel⟩, by decide +kernel, by decide +kernel, by decide +kernel⟩

/-- The walk of panel 3107 aborted by the entry into HALTING; ARMED and PREPARE dropped by it; PREPARE back to ARMED by
the entry into HOLD (R58, R150). -/
theorem witness_HaltingAndDrainStep_entries :
    let t := enterHalting .request (atBladePos 1009950 panelAtBlade)
    moving panelAtBlade ∧ panelAtBlade.walking = true ∧ (t.walk.map (·.status)) = some .aborted ∧
      (t.findRec 7).map (fun r => (r.rejects, r.first, r.outLen)) = some (128#8, some .halted, 20752) ∧
      moving armedAt ∧ armedAt.roll.state = .armed ∧ armedAt.roll.winStatus = .reserved ∧
      (enterHalting .request armedAt).roll.state = .idle ∧ (enterHalting .request armedAt).window = none ∧
      committedAt.roll.state = .prepare ∧ committedAt.roll.incoming = some .b ∧
      ((enterHalting .request committedAt).roll.standB.role, (enterHalting .request committedAt).roll.standB.steps) =
        (some .stopping, 3) ∧
      ((enterHold committedAt).roll.state, (enterHold committedAt).roll.winStatus) = (.armed, .reserved) ∧
      (enterHold armedAt).roll = armedAt.roll ∧ enterHalting .request (inMode .halt armedAt) = inMode .halt armedAt := by
  unfold moving; decide +kernel

/-- A window reserved in ARMED that is no longer in the plan. -/
theorem witness_SegmentsHandedOver_window :
    let s := { armedAt with plan := { armedAt.plan with segs := armedAt.plan.segs.tail } }
    s.roll.state = .armed ∧ s.roll.winStatus = .reserved ∧ (∀ g ∈ s.plan.segs, g.kind ≠ .window) ∧
      (∃ g ∈ armedAt.plan.segs, g.kind = .window) ∧
      ((windowPassed s).roll.winStatus = .reserved ∨ (windowPassed s).roll.winStatus = .pending) := by decide +kernel

/-- No stand named, of two that are not STOPPING; a change in PREPARE with its window committed, and a forced one. -/
theorem witness_RollRequestsTaken_none_and_prepare :
    (req [2]).args = [2] ∧ (after (.setActiveStand (req [2])) bothStands).activeStand = none ∧
      committedAt.ring.bypass = false ∧ committedAt.roll.state = .prepare ∧ committedAt.roll.forced = false ∧
      committedAt.roll.incoming = some .b ∧ committedAt.roll.winStatus = .committed ∧
      (let t := after (.cancelRollChange (req [])) committedAt
       (t.roll.state, t.roll.standB.role, t.plan.segs.any fun g => g.kind == .window) =
         (.idle, some .stopping, false)) ∧
      answer (after (.cancelRollChange (req []))
        { committedAt with roll := { committedAt.roll with forced := true } }) = some (2, 29, 0) := by decide +kernel

/-! ### The hypotheses of the judgements inside a used cycle frame -/

/-- A reaction that purges caps the speed at 2,000; panel 3107 is governed and stroking. -/
theorem witness_SpeedLimitsFormed :
    (govern 30000 1 governorFrame).gov.limits.dwell = some 10000 ∧
      (govern 30000 1 governorFrame).gov.limits.stroke = some 6000 ∧
      (govern 30000 1 purging).gov.limits.reaction = some 2000 ∧
      (∃ r ∈ governorFrame.plan.setMap, r.kind = .panel p3107 ∧
        ∃ g, governorFrame.fold.seg = some g ∧ g.serial = r.serial) ∧
      (govern 30000 1 State.reset).gov.limits.dwell = none := by
  refine ⟨by decide +kernel, by decide +kernel, by decide +kernel, ⟨_, .head _, ?_, ⟨_, rfl, ?_⟩⟩, by decide +kernel⟩ <;>
    decide +kernel

/-- A stretch of 20,000 just before an anchored WINDOW, and one that does not fit there. -/
theorem witness_ReplanPlacesMovable :
    (∀ g ∈ committedAt.anchored, 0 < g.len) ∧ committedAt.anchored.Pairwise (fun x y => segEnd x ≤ y.start) ∧
      committedAt.anchored.map (fun g => (g.kind, g.start)) = [(.window, 3150000)] ∧
      placeStart committedAt.anchored 3130000 20000 = 3130000 ∧
      placeStart committedAt.anchored 3130001 20000 = 3170000 ∧
      (committedAt.movable[1]?).map (·.kind) = some (.panel { order := 7002, remake := 0, slot := 7, cls := 3 }) := by
  decide +kernel

/-- The panel at the blade with this remake number and disposition of its record. -/
def spliceAt (remake : Nat) (d : Disposition) : State :=
  let k : SegKind := .panel { order := 5120, remake := remake, slot := 7, cls := 3 }
  { beforeSplice with
    fold := { beforeSplice.fold with seg := beforeSplice.fold.seg.map fun g => { g with kind := k } }
    plan := { beforeSplice.plan with
              setMap := beforeSplice.plan.setMap.map fun r => { r with kind := k, disposition := d } } }

/-- A splice that ends exactly at the plan origin; remade once, then at the limit, then decided before. -/
theorem witness_SplicesTaken :
    beforeSplice.planOrigin = 2104000 ∧ 0 < beforeSplice.par 42 ∧ 2099000 + beforeSplice.par 42 = 2104000 ∧
      (spliceAt 1 .none).findRec 300 = (spliceAt 1 .none).plan.setMap.head? ∧
      (spliceAt 1 .none).plan.setMap.map (fun r => (r.serial, r.disposition)) = [(300, .none)] ∧
      ((spliceRecord 2099000 (spliceAt 1 .none)).plan.setMap.map fun r => (r.disposition, r.first)) =
        [(.remade, some .splice)] ∧
      ((spliceRecord 2099000 (spliceAt 2 .none)).plan.setMap.map (·.disposition)) = [.remakeLimit] ∧
      ((spliceRecord 2099000 (spliceAt 1 .planFull)).plan.setMap.map (·.disposition)) = [.planFull] := by
  decide +kernel

/-- Waste at the blade; a splice at the start of a committed WINDOW; a plan without one. -/
theorem witness_SplicesTaken_elsewhere :
    (∃ g, { readyToCut .gap 200009 with
            fold := { lineSet.fold with
                      seg := some { serial := 1, kind := .gap, start := 0, len := 10, walk := none } } }.fold.seg = some g ∧
        isPanel g.kind = false ∧ ((readyToCut .gap 200009).findRec g.serial).isSome = true) ∧
      (∃ w, committedAt.committedWindow = some w ∧ w.start = 3150000 ∧ 3150000 + committedAt.par 42 ≤ segEnd w ∧
        committedAt.planOrigin ≤ 3150000 ∧ committedAt.plan.segs.length ≤ 30 ∧
        committedAt.plan.segs.Pairwise (fun g h => g.serial ≠ h.serial)) ∧
      (beforeSplice.committedWindow = none ∧
        beforeSplice.plan.segs.Pairwise (fun g h => segEnd g ≤ h.start) ∧
        ∀ g ∈ beforeSplice.plan.segs, 0 < g.len ∧ (g.kind = .splice → g.anchored = true)) := by
  refine ⟨⟨_, rfl, rfl, by decide⟩, ⟨_, rfl, ?_⟩, ?_⟩ <;> decide +kernel

/-- The sample slot good, damaged, of a wrong node kind, and out of range for BOX_PRESS; the frame used. -/
theorem witness_SamplesJudged :
    mappedTwo.ring.bypass = false ∧ (twoSlots 9).wf = true ∧ elapsedFor mappedTwo (twoSlots 9).cycle = 1 ∧
      mappedTwo.sig.entries.length = 27 ∧ (mappedTwo.entry 7).slot = some 1 ∧
      (twoSlots 9).slots[1]? = some (sampleSlot false true 280) ∧ slotDamaged 1 (sampleSlot false true 280) = false ∧
      (sampleSlot false true 280).nodeKind.toNat = (mappedTwo.entry 7).nodeKind ∧
      slotDamaged 1 (sampleSlot false false 280) = true ∧
      slotDamaged 1 { sampleSlot false true 280 with nodeKind := 4 } = false ∧
      10000 < (sampleSlot false true 16384).value.toNat ∧ (mappedTwo.entry 8).slot = none := by decide +kernel

/-- A damaged sample lowers the stale counter; a wrong node kind opens its episode with fault 631 (R173, R176). -/
theorem test_samples_not_fresh :
    let f (x : Slot) : CycleFrame := { twoSlots 9 with slots := [commandSlot, x] }
    let damaged := after (.cycleFrame (f (sampleSlot false false 280))) mappedTwo
    let wrong := after (.cycleFrame (f { sampleSlot false true 280 with nodeKind := 4 })) mappedTwo
    ((damaged.entry 7).state, (damaged.entry 7).stale) = (.awaiting, 1) ∧
      ((wrong.entry 7).stale, (wrong.entry 7).kindOpen, wrong.fault.history.map (·.detail)) = (1, true, [631]) := by
  decide +kernel

/-- LINE_STATUS's slot of another node kind opens its mismatch episode with fault 631, a damaged one leaves it open, and
a good one ends it (R176). -/
theorem witness_SamplesJudged_command :
    let f (x : Slot) : CycleFrame := { twoSlots 9 with slots := [x, sampleSlot false true 280] }
    let wrong : Slot := { commandSlot with nodeKind := 5, parity := true }
    let mis := after (.cycleFrame (f wrong)) mappedTwo
    let f2 (x : Slot) : CycleFrame := { twoSlots 10 with slots := [x, sampleSlot true false 280] }
    slotDamaged 0 wrong = false ∧ (mappedTwo.entry 26).slot = some 0 ∧ (mappedTwo.entry 26).kindOpen = false ∧
      (mis.entry 26).kindOpen = true ∧
      mis.fault.history.map (fun h => (h.detail, h.subject)) = [(631, .signal 26)] ∧
      (after (.cycleFrame (f2 { commandSlot with parity := true })) mis).entry 26 = mis.entry 26 ∧
      ((after (.cycleFrame (f2 commandSlot)) mis).entry 26).kindOpen = false := by decide +kernel

/-- Two zones mapped to slots 0 and 1, zone 1 above ZONE_LIMIT (2,000) and ZONE_OVER active. -/
def twoZones : State :=
  let s := setCond .zoneOver true (withPar 26 2000 (withPar 10 2 lineSet))
  let e (k : Nat) : SigEntry := { SigEntry.reset with slot := some k, nodeKind := 2, stale := 1 }
  { s with
    sig := { s.sig with entries := (s.sig.entries.set 3 (e 0)).set 4 (e 1) }
    heat := { s.heat with zones := [some 2001, some 0, none, none] } }

/-- A frame in which zone 1 reads 0 and zone 2 reads 3,000. -/
def zonesCross : CycleFrame :=
  { cycle := 9, speed := 0, slots := [{ sampleSlot false true 0 with index := 0 }, sampleSlot false true 3000] }

/-- Zone 1 falls below the limit in the frame in which zone 2 rises above it: the episode goes on, and no second fault
321 is recorded (R94, R101). -/
theorem test_zones_cross_in_one_frame :
    let t := after (.cycleFrame zonesCross) twoZones
    t.heat.zones = [some 0, some 3000, none, none] ∧ t.cond .zoneOver = true ∧ t.fault.history = [] := by decide +kernel

theorem witness_HeatReadingsTaken :
    twoZones.ring.bypass = false ∧ zonesCross.wf = true ∧ elapsedFor twoZones zonesCross.cycle = 1 ∧
      twoZones.heat.zones.length = 4 ∧ twoZones.par 10 = 2 ∧ twoZones.zone 1 = some (twoZones.par 26 + 1) ∧
      reactQuiet twoZones ∧ slotDamaged 1 (sampleSlot false true 3000) = false ∧
      (heatJudges none lineSet twoZones) = twoZones ∧
      (heatJudges none lineSet (setCond .zoneOver false twoZones)).fault.history.map (·.subject) = [.signal 3] ∧
      (heatJudges none twoZones lineSet).cond .zoneOver = false ∧
      (after (.cycleFrame (twoSlots 9)) mappedTwo).heat.press = some 280 := by
  unfold reactQuiet; decide +kernel

/-- Cells 0 and 5 owned by panel 3107, which two readings put in and out of band, aged by 2 cycles. -/
def owned (reading : Option Nat) : State :=
  let c (o : Option SegSerial) : Cell := { owner := o, age := 3, exposure := 1 }
  { oneShift with
    heat := { oneShift.heat with
              cells := [c (some 7), c none, c none, c none, c none, c (some 7), c none, c none],
              classes := oneShift.heat.classes.set 3 cotton, zones := [reading, none, none, none] } }

/-- BOX_PRESS below PRESS_MIN and at it, with a valve open. -/
theorem witness_HeatReadingsTaken_press :
    let s := withPar 27 500 { owned none with heat := { (owned none).heat with steam := true } }
    (zoneCommand s 1).2 = true ∧ (judgePress 499 s).fault.history.map (·.detail) = [331] ∧
      (judgePress 500 s).cond .pressureLow = false := by decide +kernel

theorem witness_CellsAgedAndShifted_owned :
    (owned none).heat.cells[5]? = some { owner := some 7, age := 3, exposure := 1 } ∧
      (∃ r, (owned none).findRec 7 = some r ∧ r.kind = .panel p3107) ∧ inZone (owned none) 1 5 = true ∧
      (owned none).zone 1 = none ∧ (owned (some 1550)).zone 1 = some (1500 + cotton.tol) ∧
      ((ageCells 2 (owned (some 1550))).heat.cells[5]?).map (fun c => (c.age, c.exposure)) = some (5, 1) ∧
      ((ageCells 2 (owned (some 1551))).heat.cells[5]?).map (fun c => (c.age, c.exposure)) = some (5, 3) := by
  refine ⟨by decide +kernel, ⟨_, rfl, by decide +kernel⟩, ?_⟩; decide +kernel

/-- An advance of three shifts; a shift that falls on the panel's extent raises its count of cells; the first and the
last cell of two zones of 16 and 48. -/
theorem witness_CellsAgedAndShifted_shifts :
    oneShift.heat.acc + 3760 = 3 * oneShift.par 8 + 7 ∧ oneShift.heat.cells.getLast?.isSome = true ∧
      ((shiftOnce 400003 oneShift).findRec 7).map (·.cells) = some 1 ∧ (oneShift.findRec 7).map (·.cells) = some 0 ∧
      ((shiftOnce 400002 oneShift).findRec 7).map (·.cells) = some 0 ∧ twoZones.par 10 = 2 ∧
      ([(1, 0), (1, 15), (1, 16), (2, 15), (2, 16), (2, 63), (2, 64)].map fun x => inZone twoZones x.1 x.2) =
        [true, true, false, false, true, true, false] := by decide +kernel

/-- A cell of panel 3107 that leaves with too little dwell and too much exposure; an owned and an unowned cell. -/
theorem witness_ExitsJudged :
    (∃ r, (owned none).findRec 7 = some r ∧ r.kind = .panel p3107 ∧ r.rejects = 0 ∧ r.first = none ∧
        r.firstHeat = none) ∧ 3 * (owned none).par 1 < cotton.minDwell * 1000 ∧
      cotton.bandAllow * 1000 < 1 * (owned none).par 1 ∧
      (exitCell { owner := some 7, age := 3, exposure := 1 } (owned none)).plan.setMap.map
        (fun r => (r.first, r.firstHeat, r.rejects)) = [(some .underset, some .underset, 10#8)] := by
  refine ⟨⟨_, rfl, by decide +kernel⟩, ?_⟩; decide +kernel

/-- A record past the box with a heat reason behind an earlier splice: its final verdict is the heat reason (R99). -/
theorem test_verdict_is_first_heat_reason :
    let r : SetRec :=
      { enterRec { serial := 7, kind := .panel p3107, start := 0, len := 10, anchored := false } (.panel p3107) 0 10 with
        cells := 0, first := some .splice, firstHeat := some .band, rejects := 24#8 }
    let s := readyToCut .gap 200010
    let past : State := { s with plan := { s.plan with setMap := [r, { r with firstHeat := none }] } }
    (finalVerdicts past).plan.setMap.map (·.verdict) = [some (.reject .band), some .accept] ∧
      (finalVerdicts (finalVerdicts past)).plan.setMap = (finalVerdicts past).plan.setMap := by decide +kernel

/-- Zone 1 with a cell of panel 3107; without one, the panel on its way; zone 2 does not exist. -/
theorem witness_ZoneCommandsFormed :
    1 ≤ (owned none).par 10 ∧ (owned none).par 10 < 2 ∧ inZone (owned none) 1 0 = true ∧
      (owned none).heat.cells[0]? = some { owner := some 7, age := 3, exposure := 1 } ∧
      targetClass (owned none) 1 = some 3 ∧ zoneCommand (owned none) 1 = ((owned none).par 32, false) ∧
      (∀ d ∈ governorFrame.heat.cells, d.owner = none) ∧ governorFrame.plan.segs = [] ∧
      (∃ r, governorFrame.plan.setMap = [r] ∧ r.cells = 0 ∧ tailDistance governorFrame r < governorFrame.par 7) ∧
      targetClass governorFrame 1 = some 3 := by
  refine ⟨by decide +kernel, by decide +kernel, by decide +kernel, by decide +kernel, by decide +kernel,
    by decide +kernel, by decide +kernel, by decide +kernel, ⟨_, rfl, by decide +kernel⟩, by decide +kernel⟩

/-- Steam enabled with an applied reaction that closes the valve and one that vents (R105, R106). -/
theorem test_zone_cases :
    let s := { owned none with heat := { (owned none).heat with steam := true } }
    let withReact (a : SteamAction) : State :=
      modReaction 2 (fun e => { e with state := .applied, steamAction := a }) s
    zoneCommand s 1 = (1500, true) ∧ zoneCommand (withReact .standby) 1 = (s.par 32, true) ∧
      zoneCommand (withReact .close) 1 = (1500, false) ∧ commandValue false (withReact .vent) 21 = 1 := by decide +kernel

theorem witness_CommandWordsSent :
    panelAtBlade.fold.heldDepth ≤ 5000 ∧ governorFrame.gov.feed ≤ 200000 ∧ governorFrame.gov.conv ≤ 100000 ∧
      (zoneCommand (owned none) 4).1 ≤ 2500 ∧ bothStands.gov.standA ≤ 200000 ∧ State.reset.react.entries.length = 8 ∧
      State.reset.plan.segs.length ≤ 32 := by decide +kernel

/-- Stand A at this diameter, stand B in this role, the sequencer in this state. -/
def forcedAt (d : Nat) (st : SeqState) (role : Role) : State :=
  { windowed with
    roll := { windowed.roll with
              standA := { windowed.roll.standA with diam := some d }
              standB := { windowed.roll.standB with role := some role }, state := st, incoming := some .b } }

theorem witness_ChangesArmedAndCommitted :
    windowed.activeStand = some (otherStand .b) ∧ (windowed.stand .a).diam = some 29995 ∧
      windowed.par 34 < 29995 ∧ 29995 ≤ windowed.par 33 ∧ windowed.roll.state = .idle ∧ windowed.roll.hold = false ∧
      windowed.roll.missCount < 3 ∧ (windowed.stand .b).role = some .ready ∧
      (armedAt.window.map fun w => decide (w.start ≤ (atBladePos 3020000 armedAt).pUnwind + armedAt.par 43)) = some true ∧
      (rollJudge 1 (forcedAt (windowed.par 34) .armed .ready)).roll.forced = true ∧
      (rollJudge 1 (forcedAt (windowed.par 34) .idle .notReady)).fault.history.map (·.detail) = [451] ∧
      (rollJudge 1 (forcedAt (windowed.par 34 + 1) .armed .absent)).roll.state = .idle := by decide +kernel

/-- In PREPARE with a fresh speed sample of stand B, at both edges of MATCH_TOL (R141). -/
def matching (speed : Nat) : State :=
  { committedAt with
    sig := { committedAt.sig with
             entries := committedAt.sig.entries.modify 10 fun g =>
               { g with slot := some 3, state := .fresh, stale := 1, staleLimit := 1 } }
    gov := { committedAt.gov with feed := 1000 }
    roll := { committedAt.roll with matchCount := 2, standB := { committedAt.roll.standB with speed := some speed } } }

theorem witness_ChangesMatchedAndPasted :
    committedAt.roll.state = .prepare ∧ committedAt.roll.incoming = some .b ∧ committedAt.roll.forced = false ∧
      (∃ p, committedAt.roll.pastePos = some p ∧ p + committedAt.par 45 < (atBladePos 3060003 committedAt).pUnwind) ∧
      (∃ g ∈ committedAt.plan.segs, g.kind = .window ∧ g.anchored = true) ∧
      ((matching 1050).entry 10).state = .fresh ∧ (matchAndPaste (matching 1050)).roll.matched = true ∧
      (matchAndPaste (matching 949)).roll.matchCount = 0 ∧
      (∃ p, (matchedAt 3055002).roll.pastePos = some p ∧ p ≤ (matchedAt 3055002).pUnwind ∧
        (matchedAt 3055002).roll.synced = true) := by
  refine ⟨by decide +kernel, by decide +kernel, by decide +kernel, ⟨_, rfl, by decide +kernel⟩, ?_, by decide +kernel,
    by decide +kernel, by decide +kernel, ⟨_, rfl, ?_⟩⟩ <;> decide +kernel

/-- The match timer grows in the frame of a miss (R141, R143); the third miss ends the change with fault 412. -/
theorem test_miss_grows_match_timer :
    let s := atBladePos 3060003 committedAt
    (rollJudge 5 s).roll.matchTimer = 5 ∧ (rollJudge 5 s).roll.missCount = 1 ∧
      (rollJudge 5 { s with roll := { s.roll with missCount := 2 } }).fault.history.map (·.detail) = [412, 411] := by
  decide +kernel

/-- SPLICE_STATE in slot 0 confirms the cut of serial 7 in the frame that brings, in slot 1, the incoming diameter 0. -/
def cutAndDiameter : State :=
  let s := changing .cut false true 0
  { s with
    sig := { s.sig with
             entries := (s.sig.entries.set 11 { SigEntry.reset with slot := some 0, nodeKind := 4, stale := 1 }).set 13
               { SigEntry.reset with slot := some 1, nodeKind := 2, stale := 1 } } }

/-- The stand's sample is judged before SPLICE_STATE acts: fault 461, then, with stand B ACTIVE at diameter 0, 471 (R128,
R133, R132). -/
theorem test_diameter_before_cut_confirm :
    let splice : Slot := { commandSlot with command := false, value := 12 + 256 * 7 }
    let t := after (.cycleFrame { cycle := 9, speed := 0, slots := [splice, sampleSlot true true 0] }) cutAndDiameter
    t.fault.history.map (·.detail) = [471, 461] ∧ t.roll.state = .settle := by decide +kernel

/-- Stand A ACTIVE at CORE_DIAM and stand B incoming at 0 in one frame, in PREPARE, with a HALT reaction on WEB_END. -/
def bothRunOut : State :=
  let s := changing .prepare false false 0
  let e (k : Nat) : SigEntry := { SigEntry.reset with slot := some k, nodeKind := 2, stale := 1 }
  let s := { s with sig := { s.sig with entries := (s.sig.entries.set 12 (e 0)).set 13 (e 1) } }
  modReaction 0 (fun p => { p with enabled := true, trigger := 1024, modeAction := .halt }) s

/-- The frame that brings both. -/
def runOutFrame : CycleFrame :=
  { cycle := 9, speed := 0, slots := [{ sampleSlot false false 10000 with index := 0 }, sampleSlot false false 0] }

/-- Both diameters are taken before a rule acts: stand B's removal, fault 461, is judged although WEB_END halts the line
and ends the change (R128, R149, R150). -/
theorem test_removal_with_web_end_reaction :
    let t := after (.cycleFrame runOutFrame) bothRunOut
    t.fault.history.map (·.detail) = [471, 461] ∧ t.roll.state = .idle ∧ t.roll.standB.diam = some 0 ∧
      t.mode.cause = .reaction 0 := by decide +kernel

theorem witness_StandSamplesTaken :
    let s := { bothRunOut with react := State.reset.react }
    s.ring.bypass = false ∧ runOutFrame.wf = true ∧ elapsedFor s 9 = 1 ∧ s.sig.entries.length = 27 ∧ reactAtRest s ∧ s.purgeActive = false ∧
      s.roll.incoming = some .b ∧ (s.stand .b).role = some .incoming ∧ (s.stand .b).diam ≠ some 0 ∧
      s.roll.state = .prepare ∧ s.roll.pasteFlight = false ∧ s.roll.cutFlight = false ∧
      (s.entry 13).slot = some 1 ∧ (s.entry 13).toggle ≠ some false ∧ slotDamaged 1 (sampleSlot false false 0) = false ∧
      ((after (.cycleFrame runOutFrame) s).stand .b).role = some .stopping ∧
      (changing .paste true false 0).roll.state = .paste ∧ (s.stand .a).role = some .active := by
  unfold reactAtRest; decide +kernel

/-- Stand A, ACTIVE, down to CORE_DIAM; stand B READY and taken off; stand B incoming and gone in PASTE. -/
theorem witness_StandSamplesTaken_judged :
    let at0 (s : State) : State := { s with roll := { s.roll with standB := { s.roll.standB with diam := some 0 } } }
    let end_ : State := { bothStands with
                          roll := { bothStands.roll with
                                    standA := { bothStands.roll.standA with diam := some (bothStands.par 35) } } }
    (standsJudge (some (bothStands.par 35)) none bothStands end_).fault.history.map (·.detail) = [471] ∧
      (standsJudge none (some 0) bothStands
        (at0 { bothStands with roll := { bothStands.roll with hold := true } })).roll.hold = false ∧
      ((standsJudge none (some 0) bothStands (at0 bothStands)).stand .b).role = some .absent ∧
      (let s := changing .paste true false 0
       (standsJudge none (some 0) s (at0 s)).roll.failed = true) := by decide +kernel

/-! ### The hypotheses of the loading and planning requests' clauses -/

theorem witness_LineParamsWritten_refused :
    (inMode .run State.reset).mode.mode ≠ .halt ∧ beforeSplice.plan.segs ≠ [] ∧ paramInRange 1 1100 = false ∧
      (req [1, 4000, 51, 0]).args = [((1 : Word), (4000 : Word)), (51, 0)].flatMap (fun p => [p.1, p.2]) ∧
      (req [1]).args.length % 2 = 1 := by decide +kernel

theorem witness_ClassesWritten_refused :
    answer (after (.writeClass (req [0, 1, 200, 199, 300, 5, 0, 1, 2, 3, 2500])) State.reset) = some (2, 4, 3) ∧
      answer (after (.writeClass (req [15, 0, 0, 0, 0, 0, 0, 0, 0, 0, 0])) (withClass 15 cotton State.reset)) =
        some (1, 0, 0) ∧
      answer (after (.writeClass (req [16, 0, 0, 0, 0, 0, 0, 0, 0, 0, 0])) State.reset) = some (4, 0, 0) := by
  decide +kernel

/-- Every entry word written and of the right sum; the worked examples of 02 reach checks 3, 8 and 9. -/
theorem witness_SlotsClosed_checks :
    (openSlotOf boxPleat).entries.length = 64 ∧
      (∀ i, i < 7 → (openSlotOf boxPleat).written.getLsbD i = true) ∧
      BitVec.ofNat 32 (((openSlotOf boxPleat).entries.take 7).map fun w => w.1.toNat + w.2.toNat).sum =
        wordSum boxPleat 7 ∧
      ((openSlotOf boxPleat).entries.take 7).map decodeEntry =
        (boxPleat.filterMap decodeEntry).map some ∧
      groupsBetween (boxPleat.filterMap decodeEntry) 0 7 = 0 ∧
      weighted entryFolds (boxPleat.filterMap decodeEntry) 7 = 8 := by decide +kernel

/-- CLOSE_SLOT of a slot beyond the last, of a FREE slot, and of an OPEN one with c at 0 and at 65; and a list of
entries of which every RAMP has at least 2 folds. -/
theorem witness_SlotsClosed_refused :
    let s := withSlot 5 (openSlotOf boxPleat) State.reset
    s.ring.bypass = false ∧ (req [5, 0]).args.length ≠ 3 ∧ 31 < (32#32).toNat ∧ (s.slot 4).state ≠ .opened ∧
      (s.slot 5).state = .opened ∧ 64 < (65#32).toNat ∧
      answer (after (.closeSlot (req [32, 0, 0])) s) = some (2, 6, 0) ∧
      answer (after (.closeSlot (req [4, 0, 0])) s) = some (2, 8, 0) ∧
      answer (after (.closeSlot (req [5, 0, 0])) s) = some (2, 4, 0) ∧
      answer (after (.closeSlot (req [5, 65, 0])) s) = some (2, 4, 0) := by decide +kernel

theorem witness_SlotsClosed_ramps :
    ∀ dir n p d0 d1, Entry.ramp dir n p d0 d1 ∈ nestedRun 11 → 2 ≤ n := by
  intro dir n p d0 d1 h
  simp only [nestedRun, List.mem_cons, Entry.ramp.injEq, reduceCtorEq, List.not_mem_nil, false_or, or_false] at h
  omega

/-- Each check of the groups that a list of entries reaches (R29). -/
theorem test_structure_checks :
    let f : Entry := .fold .left 50 100
    structureCheck [f, .groupEnd] = some (4, 1) ∧ structureCheck [.groupBegin 2, .groupBegin 2, f, .groupEnd] = some (4, 0) ∧
      structureCheck ([.groupBegin 2, .groupBegin 2, .groupBegin 2, .groupBegin 2, f] ++ List.replicate 4 .groupEnd) =
        some (5, 3) ∧
      structureCheck [f, .groupBegin 2, .groupEnd] = some (6, 1) ∧ structureCheck [.space 9] = some (7, 64) := by
  decide +kernel

theorem witness_PatternTotals :
    (∃ e ∈ boxPleat.filterMap decodeEntry, entryPitch e ≠ none) ∧
      (totalsOf (boxPleat.filterMap decodeEntry)).f = 40000 := by
  refine ⟨⟨.fold .left 2000 1000, ?_⟩, ?_⟩ <;> decide +kernel

/-- A refusal at each kind of check, and the GAP that joins one already last (R66, R67). -/
theorem witness_PanelsPlanned_refused :
    answer (after (.planPanel (req [65535, 12, 3])) State.reset) = some (2, 13, 0) ∧
      answer (after (.planPanel (req [65535, 12, 4])) readyToPlan) = some (2, 15, 0) ∧
      answer (after (.planPanel (req [0, 12, 3])) readyToPlan) = some (4, 0, 0) ∧
      (beforeSplice.plan.segs.getLast?).map (·.kind) ≠ some .gap ∧
      (after (.cancelPanel (req [5122])) beforeSplice).plan.segs.getLast?.map (·.kind) = some .gap := by decide +kernel

/-- Panels 5121, of a compatible class, and 5122, of another, stand 121,875 apart: with 5121 cancelled 5122 would follow
5120 (R68). -/
theorem witness_PanelsCancelled_refused :
    answer (after (.cancelPanel (req [5120])) beforeSplice) = some (2, 21, 0) ∧
      answer (after (.cancelPanel (req [5123])) beforeSplice) = some (2, 22, 0) ∧
      (let s := { beforeSplice with
                  plan := { beforeSplice.plan with
                            segs := beforeSplice.plan.segs.modify 3 fun g => { g with start := 2110000 } } }
       compatible s 3 9 = false ∧ answer (after (.cancelPanel (req [5121])) s) = some (2, 23, 5122)) := by
  decide +kernel

theorem witness_PanelsAborted_lengths :
    ∃ g w x, panelAtBlade.fold.seg = some g ∧ g.walk = some w ∧ w.status = .walking ∧
      panelAtBlade.findRec g.serial = some x ∧ x.kind = g.kind ∧ panelAtBlade.plan.segs = [] ∧
      panelAtBlade.pBlade < panelAtBlade.planEnd := by
  refine ⟨_, _, _, rfl, rfl, ?_, rfl, ?_⟩ <;> decide +kernel

/-- A reaction in PURGE with INHIBIT bars RUN; DRAIN is not allowed from HALT; DONE for the present mode (R155). -/
theorem witness_SetModeAnswers_refused :
    (∃ p ∈ lastPurge.react.entries, p.state ≠ .idle ∧ p.inhibit = true) ∧
      answer (after (.setMode (req [4])) (inMode .hold lastPurge)) = some (2, 32, 0) ∧
      answer (after (.setMode (req [6])) lineSet) = some (2, 31, 0) ∧
      answer (after (.setMode (req [0])) lineSet) = some (1, 0, 0) := by
  refine ⟨?_, ?_⟩ <;> decide +kernel

theorem witness_ReactionsWrittenAndAcknowledged_refused :
    (threeReactions.reaction 3).state = .idle ∧ (purging.reaction 0).state ≠ .idle ∧
      answer (after (.writeReaction (req [0, 0, 0, 1, 0, 0, 0, 0, 0, 2])) State.reset) = some (2, 4, 9) ∧
      (guardApplied.reaction 3).state = .applied ∧ (guardApplied.reaction 3).trigger.getLsbD 1 = true ∧
      guardApplied.react.marks.getLsbD 1 = true := by decide +kernel

end Sys2Proof.Tests
end

section
/-! WRITE_LINE_PARAM (R2): the pairs a request carries, the first pair refused, and the request's answer in each case. -/
namespace Sys2Proof.Machine

/-! ### A request handed to its owner -/

/-- A request is answered as its owner judges it, while the part takes frames (R199, R209). -/
theorem serve_eq_reply {code : Nat} {f : List Word → State → State × Answer} {r : Request} {s t : State} {a : Answer}
    (hb : s.ring.bypass = false) (h : judged f r.args s = (t, a)) : serve code f r s = reply code r a t := by
  simp [serve, taking, hb, h, reply]

theorem judged_of_length_le {f : List Word → State → State × Answer} {args : List Word} {s : State}
    (h : args.length ≤ 16) : judged f args s = f args s :=
  if_neg (by omega)

/-- A form that the owner finds MALFORMED is so at any length: RING finds the long ones so first (R199). -/
theorem judged_malformed {f : List Word → State → State × Answer} {args : List Word} {s : State}
    (h : f args s = (s, .malformed)) : judged f args s = (s, .malformed) := by
  unfold judged
  split
  · rfl
  · exact h

theorem exec_writeLineParam (r : Request) (s : State) :
    exec (.writeLineParam r) s = .next (serve 4 reqWriteLineParam r s) := rfl

/-! ### The pairs of a request -/

theorem wordPairs_flatMap (pairs : List (Word × Word)) : wordPairs (pairs.flatMap fun p => [p.1, p.2]) = pairs := by
  induction pairs with
  | nil => rfl
  | cons p t ih => simp [wordPairs, ih]

theorem length_flatMap_pair (pairs : List (Word × Word)) :
    (pairs.flatMap fun p => [p.1, p.2]).length = 2 * pairs.length := by
  induction pairs with
  | nil => rfl
  | cons p t ih =>
    rw [List.flatMap_cons, List.length_append, ih]
    simp only [List.length_cons, List.length_nil]
    omega

/-- The request's argument words are these pairs, one to eight of them (R2). -/
structure Carries (r : Request) (pairs : List (Word × Word)) : Prop where
  nonempty : 1 ≤ pairs.length
  atMost : pairs.length ≤ 8
  args : r.args = pairs.flatMap fun p => [p.1, p.2]

theorem Carries.length_args {r : Request} {pairs : List (Word × Word)} (h : Carries r pairs) :
    r.args.length = 2 * pairs.length := by
  rw [h.args, length_flatMap_pair]

theorem Carries.wordPairs_args {r : Request} {pairs : List (Word × Word)} (h : Carries r pairs) :
    wordPairs r.args = pairs := by
  rw [h.args, wordPairs_flatMap]

theorem Carries.wellFormed {r : Request} {pairs : List (Word × Word)} (h : Carries r pairs) :
    ¬(r.args.isEmpty ∨ r.args.length % 2 = 1) := by
  have hlen := h.length_args
  have hpos := h.nonempty
  rw [List.isEmpty_iff_length_eq_zero]
  omega

/-! ### The first pair refused -/

/-- A pair passes checks 3 and 4: its parameter exists and the value is in range (R2). -/
def pairPasses (p : Word × Word) : Prop := 1 ≤ p.1.toNat ∧ p.1.toNat ≤ 50 ∧ paramInRange p.1.toNat p.2 = true

theorem badPair_cons_of_passes {p : Word × Word} (h : pairPasses p) (t : List (Word × Word)) (k : Nat) :
    badPair (p :: t) k = badPair t (k + 1) := by
  obtain ⟨hlo, hhi, hrange⟩ := h
  rw [badPair, if_neg (by omega), if_pos hrange]

/-- Leading pairs that pass are skipped and counted. -/
theorem badPair_append {front : List (Word × Word)} (h : ∀ p ∈ front, pairPasses p) (rest : List (Word × Word))
    (k : Nat) : badPair (front ++ rest) k = badPair rest (k + front.length) := by
  induction front generalizing k with
  | nil => rfl
  | cons p t ih =>
    obtain ⟨hp, ht⟩ := List.forall_mem_cons.mp h
    rw [List.cons_append, badPair_cons_of_passes hp, ih ht, List.length_cons, Nat.add_assoc, Nat.add_comm 1]

theorem badPair_eq_none {pairs : List (Word × Word)} (h : ∀ p ∈ pairs, pairPasses p) : badPair pairs 0 = none := by
  simpa [badPair] using badPair_append h [] 0

/-- The judgement falls on pair i when all pairs before it pass. -/
theorem badPair_at {pairs : List (Word × Word)} {i : Nat} {p : Word × Word} (hi : pairs[i]? = some p)
    (h : ∀ j q, j < i → pairs[j]? = some q → pairPasses q) :
    badPair pairs 0 = badPair (p :: pairs.drop (i + 1)) i := by
  obtain ⟨hlt, hp⟩ := List.getElem?_eq_some_iff.mp hi
  have hfront : ∀ q ∈ pairs.take i, pairPasses q := by
    intro q hq
    obtain ⟨j, hj, hjq⟩ := List.mem_take_iff_getElem.mp hq
    exact h j q (by omega) (List.getElem?_eq_some_iff.mpr ⟨by omega, hjq⟩)
  calc badPair pairs 0
      = badPair (pairs.take i ++ p :: pairs.drop (i + 1)) 0 := by
        rw [← hp, ← List.drop_eq_getElem_cons hlt, List.take_append_drop]
    _ = badPair (p :: pairs.drop (i + 1)) i := by
        rw [badPair_append hfront, List.length_take_of_le (by omega), Nat.zero_add]

theorem badPair_noSuchParam {pairs : List (Word × Word)} {i : Nat} {p : Word × Word} (hi : pairs[i]? = some p)
    (h : ∀ j q, j < i → pairs[j]? = some q → pairPasses q) (hp : p.1.toNat < 1 ∨ 50 < p.1.toNat) :
    badPair pairs 0 = some (.noSuchParam, i) := by
  rw [badPair_at hi h, badPair, if_pos hp]

theorem badPair_outOfRange {pairs : List (Word × Word)} {i : Nat} {p : Word × Word} (hi : pairs[i]? = some p)
    (h : ∀ j q, j < i → pairs[j]? = some q → pairPasses q) (hlo : 1 ≤ p.1.toNat) (hhi : p.1.toNat ≤ 50)
    (hp : paramInRange p.1.toNat p.2 = false) : badPair pairs 0 = some (.outOfRange, i) := by
  rw [badPair_at hi h, badPair, if_neg (by omega), if_neg (by simp [hp])]

/-! ### The effect of the pairs stored -/

theorem leaveSet_heat_of_set {s : State} (h : s.table.state = .set) :
    (leaveSet s).heat = { s.heat with cells := [], steam := false } := by
  simp [leaveSet, h]

theorem storeParams_table (pairs : List (Word × Word)) (s : State) :
    (storeParams pairs s).table = { s.table with state := .edit, edit := storePairs pairs s.table.edit } := by
  rw [storeParams, (evolves_settle _).table]
  simp [modTable]

/-- REACT's judging touches only the classes at HEAT, so the cell line stays removed and steam disabled (R7). -/
theorem storeParams_heat_of_set (pairs : List (Word × Word)) {s : State} (h : s.table.state = .set) :
    (storeParams pairs s).heat.cells = [] ∧ (storeParams pairs s).heat.steam = false := by
  rw [storeParams, (evolves_settle _).heat]
  simp [modTable, leaveSet_heat_of_set h]

/-- No reaction moves a line that stands in HALT (R162, R163). -/
theorem settle_mode_of_halt {s : State} (h : s.mode.mode = .halt) : (settle s).mode = s.mode := by
  rcases (evolves_settle s).mode with ⟨hm, -⟩ | ⟨hm, -⟩ | ⟨hm, -⟩
  · exact hm
  · exact absurd h hm.1
  · simp [h] at hm

theorem storeParams_mode_of_halt (pairs : List (Word × Word)) {s : State} (h : s.mode.mode = .halt) :
    (storeParams pairs s).mode = s.mode := by
  rw [storeParams, settle_mode_of_halt] <;> simp [modTable, h]

/-! ### The answer -/

theorem lineEmpty_iff (s : State) :
    lineEmpty s = true ↔ s.plan.segs = [] ∧ s.plan.setMap = [] ∧ s.fold.seg = none := by
  simp [lineEmpty, and_assoc]

theorem lineEmpty_eq_false_iff (s : State) :
    lineEmpty s = false ↔ s.plan.segs ≠ [] ∨ s.plan.setMap ≠ [] ∨ s.fold.seg ≠ none := by
  rw [← Bool.not_eq_true, lineEmpty_iff, Decidable.not_and_iff_or_not, Decidable.not_and_iff_or_not]

theorem exec_writeLineParam_malformed {r : Request} {s : State} (hb : s.ring.bypass = false)
    (h : r.args = [] ∨ r.args.length % 2 = 1) : exec (.writeLineParam r) s = .next (reply 4 r .malformed s) := by
  have hform : r.args.isEmpty ∨ r.args.length % 2 = 1 := by simpa using h
  rw [exec_writeLineParam, serve_eq_reply hb (judged_malformed (if_pos hform))]

section
variable {r : Request} {s : State} {pairs : List (Word × Word)}

/-- One to eight pairs reach the owner. -/
theorem exec_writeLineParam_of_req {t : State} {a : Answer} (hb : s.ring.bypass = false) (hc : Carries r pairs)
    (h : reqWriteLineParam r.args s = (t, a)) : exec (.writeLineParam r) s = .next (reply 4 r a t) := by
  have hlen := hc.length_args
  have hmost := hc.atMost
  rw [exec_writeLineParam, serve_eq_reply hb ((judged_of_length_le (by omega)).trans h)]

theorem exec_writeLineParam_wrongMode (hb : s.ring.bypass = false) (hc : Carries r pairs) (hm : s.mode.mode ≠ .halt) :
    exec (.writeLineParam r) s = .next (reply 4 r (.refused .wrongMode 0) s) := by
  refine exec_writeLineParam_of_req hb hc ?_
  rw [reqWriteLineParam, if_neg hc.wellFormed, if_pos hm]

theorem exec_writeLineParam_lineNotEmpty (hb : s.ring.bypass = false) (hc : Carries r pairs)
    (hm : s.mode.mode = .halt) (he : lineEmpty s = false) :
    exec (.writeLineParam r) s = .next (reply 4 r (.refused .lineNotEmpty 0) s) := by
  refine exec_writeLineParam_of_req hb hc ?_
  rw [reqWriteLineParam, if_neg hc.wellFormed, if_neg (not_not_intro hm), if_pos he]

theorem exec_writeLineParam_badPair (hb : s.ring.bypass = false) (hc : Carries r pairs) (hm : s.mode.mode = .halt)
    (he : lineEmpty s = true) {reason : Reason} {i : Nat} (h : badPair pairs 0 = some (reason, i)) :
    exec (.writeLineParam r) s = .next (reply 4 r (.refused reason i) s) := by
  refine exec_writeLineParam_of_req hb hc ?_
  rw [reqWriteLineParam, if_neg hc.wellFormed, if_neg (not_not_intro hm), if_neg (by simp [he]), hc.wordPairs_args, h]

theorem exec_writeLineParam_stored (hb : s.ring.bypass = false) (hc : Carries r pairs) (hm : s.mode.mode = .halt)
    (he : lineEmpty s = true) (h : badPair pairs 0 = none) :
    exec (.writeLineParam r) s = .next (reply 4 r (.done []) (storeParams pairs s)) := by
  refine exec_writeLineParam_of_req hb hc ?_
  rw [reqWriteLineParam, if_neg hc.wellFormed, if_neg (not_not_intro hm), if_neg (by simp [he]), hc.wordPairs_args, h]

end

@[simp] theorem reply_frame (code : Nat) (r : Request) (a : Answer) (s : State) :
    (reply code r a s).sig = s.sig ∧ (reply code r a s).pos = s.pos ∧ (reply code r a s).table = s.table ∧
      (reply code r a s).heat = s.heat ∧ (reply code r a s).mode = s.mode := by
  simp [reply]

/-- The answer sent depends on the state's ring alone. -/
theorem reply_ring_congr {code : Nat} {r : Request} {a : Answer} {s t : State} (h : t.ring = s.ring) :
    (reply code r a t).ring = (reply code r a s).ring := by
  simp [reply, sendAnswer, sendOut, h]

/-- Settles O45: each check refuses by its own case, and the pairs stored reach REACT's judging, which keeps the table,
the cell line and, in HALT, the mode. -/
theorem lineParamsWritten : Obligations.LineParamsWritten := by
  intro r s hb
  refine ⟨exec_writeLineParam_malformed hb, fun pairs h1 h8 hr => ?_⟩
  have hc : Carries r pairs := ⟨h1, h8, hr⟩
  refine ⟨exec_writeLineParam_wrongMode hb hc, fun hm hline =>
    exec_writeLineParam_lineNotEmpty hb hc hm ((lineEmpty_eq_false_iff s).mpr hline), fun hm hsegs hmap hseg => ?_⟩
  have he : lineEmpty s = true := (lineEmpty_iff s).mpr ⟨hsegs, hmap, hseg⟩
  refine ⟨fun i p hi hbefore => ⟨fun hp => ?_, fun hlo hhi hp => ?_⟩, fun hall => ?_⟩
  · exact exec_writeLineParam_badPair hb hc hm he (badPair_noSuchParam hi hbefore hp)
  · exact exec_writeLineParam_badPair hb hc hm he (badPair_outOfRange hi hbefore hlo hhi hp)
  · have hstored := exec_writeLineParam_stored hb hc hm he (badPair_eq_none hall)
    obtain ⟨hring, hsig, hpos, -⟩ := storeParams_frame pairs s
    obtain ⟨hsig', hpos', htable', hheat', hmode'⟩ := reply_frame 4 r (.done []) (storeParams pairs s)
    refine ⟨_, hstored, htable'.trans (storeParams_table pairs s), fun hset => ?_, reply_ring_congr hring,
      hsig'.trans hsig, hpos'.trans hpos, hmode'.trans (storeParams_mode_of_halt pairs hm)⟩
    rw [hheat']
    exact storeParams_heat_of_set pairs hset

end Sys2Proof.Machine
end

section
/-! OPEN_SLOT, RELEASE_SLOT and WRITE_ENTRIES (R24, R25, R34): a slot changed in place, the entries stored from an
index on, and each request's answer in each case. -/
namespace Sys2Proof.Machine

/-! ### A request of a form its owner knows -/

/-- At most 16 argument words reach the owner (R199). -/
theorem serve_of_req {code : Nat} {f : List Word → State → State × Answer} {r : Request} {s t : State} {a : Answer}
    (hb : s.ring.bypass = false) (hlen : r.args.length ≤ 16) (h : f r.args s = (t, a)) :
    serve code f r s = reply code r a t :=
  serve_eq_reply hb ((judged_of_length_le hlen).trans h)

theorem serve_malformed {code : Nat} {f : List Word → State → State × Answer} {r : Request} {s : State}
    (hb : s.ring.bypass = false) (h : f r.args s = (s, .malformed)) :
    serve code f r s = reply code r .malformed s :=
  serve_eq_reply hb (judged_malformed h)

theorem exec_openSlot (r : Request) (s : State) : exec (.openSlot r) s = .next (serve 11 reqOpenSlot r s) := rfl

theorem exec_releaseSlot (r : Request) (s : State) :
    exec (.releaseSlot r) s = .next (serve 14 reqReleaseSlot r s) := rfl

theorem exec_writeEntries (r : Request) (s : State) :
    exec (.writeEntries r) s = .next (serve 12 reqWriteEntries r s) := rfl

/-! ### A slot changed in place -/

theorem modSlot_eq_set (n : Nat) (f : PatSlot → PatSlot) (s : State) :
    modSlot n f s = { s with pat := s.pat.set n (f (s.slot n)) } := by
  have hpat : s.pat.modify n f = s.pat.set n (f (s.slot n)) := by
    rcases Nat.lt_or_ge n s.pat.length with hn | hn
    · have hslot : s.slot n = s.pat[n] := List.getElem_eq_getD PatSlot.reset |>.symm
      rw [hslot, List.modify_eq_take_cons_drop hn, List.set_eq_take_append_cons_drop, if_pos hn]
    · rw [List.modify_eq_self hn, List.set_eq_of_length_le hn]
  rw [modSlot, hpat]

/-! ### Entries stored from an index on (R25) -/

theorem storeEntries_eq (es : List (Word × Word)) (k : Nat) (p : PatSlot) :
    storeEntries es k p =
      { p with entries := (storeEntries es k p).entries, written := (storeEntries es k p).written } := by
  induction es generalizing k p with
  | nil => rfl
  | cons e t ih => rw [storeEntries, ih]

@[simp] theorem length_entries_storeEntries (es : List (Word × Word)) (k : Nat) (p : PatSlot) :
    (storeEntries es k p).entries.length = p.entries.length := by
  induction es generalizing k p with
  | nil => rfl
  | cons e t ih => rw [storeEntries, ih, List.length_set]

/-- The indices from k on hold the entries stored, in their order; every other index keeps its entry. -/
theorem getElem?_entries_storeEntries (es : List (Word × Word)) (k : Nat) (p : PatSlot) {i : Nat}
    (hi : i < p.entries.length) :
    (storeEntries es k p).entries[i]? = if k ≤ i ∧ i < k + es.length then es[i - k]? else p.entries[i]? := by
  induction es generalizing k p with
  | nil => rw [storeEntries, if_neg (by rw [List.length_nil]; omega)]
  | cons e t ih =>
    rw [storeEntries, ih _ _ (by rwa [List.length_set]), List.length_cons]
    rcases Nat.lt_trichotomy i k with hlt | rfl | hgt
    · rw [if_neg (by omega), if_neg (by omega), List.getElem?_set_ne (by omega)]
    · rw [if_neg (by omega), if_pos (by omega), List.getElem?_set_self hi, Nat.sub_self, List.getElem?_cons_zero]
    · have hsucc : i - k = i - (k + 1) + 1 := by omega
      rw [List.getElem?_set_ne (by omega), hsucc, List.getElem?_cons_succ]
      have hrange : k + 1 ≤ i ∧ i < k + 1 + t.length ↔ k ≤ i ∧ i < k + (t.length + 1) := by omega
      simp only [hrange]

theorem getLsbD_one_shiftLeft (k : Nat) {i : Nat} (hi : i < 64) : (1#64 <<< k).getLsbD i = decide (i = k) := by
  rw [BitVec.getLsbD_shiftLeft, BitVec.getLsbD_one, Bool.eq_iff_iff]
  simp only [hi, decide_true, Bool.true_and, Bool.and_eq_true, Bool.not_eq_true', decide_eq_true_iff,
    decide_eq_false_iff_not]
  omega

/-- Each index stored at joins the written-index set, and no other. -/
theorem getLsbD_written_storeEntries (es : List (Word × Word)) (k : Nat) (p : PatSlot) {i : Nat} (hi : i < 64) :
    (storeEntries es k p).written.getLsbD i =
      (p.written.getLsbD i || decide (k ≤ i ∧ i < k + es.length)) := by
  induction es generalizing k p with
  | nil =>
    have hnone : ¬(k ≤ i ∧ i < k + ([] : List (Word × Word)).length) := by
      rw [List.length_nil]
      omega
    rw [storeEntries, decide_eq_false hnone, Bool.or_false]
  | cons e t ih =>
    rw [storeEntries, ih, BitVec.getLsbD_or, getLsbD_one_shiftLeft k hi, Bool.or_assoc, ← Bool.decide_or,
      List.length_cons]
    congr 2
    rw [eq_iff_iff]
    omega

/-! ### OPEN_SLOT and RELEASE_SLOT (R24, R34) -/

theorem eq_nil_or_cons_cons_of_length_ne_one {args : List Word} (h : args.length ≠ 1) :
    args = [] ∨ ∃ a b t, args = a :: b :: t := by
  match args, h with
  | [], _ => exact .inl rfl
  | [_], h => exact absurd rfl h
  | a :: b :: t, _ => exact .inr ⟨a, b, t, rfl⟩

theorem reqOpenSlot_malformed {args : List Word} (s : State) (h : args.length ≠ 1) :
    reqOpenSlot args s = (s, .malformed) := by
  obtain rfl | ⟨a, b, t, rfl⟩ := eq_nil_or_cons_cons_of_length_ne_one h <;> rfl

theorem reqReleaseSlot_malformed {args : List Word} (s : State) (h : args.length ≠ 1) :
    reqReleaseSlot args s = (s, .malformed) := by
  obtain rfl | ⟨a, b, t, rfl⟩ := eq_nil_or_cons_cons_of_length_ne_one h <;> rfl

section
variable {n : Word} {s : State}

theorem reqOpenSlot_noSuchSlot (h : 31 < n.toNat) : reqOpenSlot [n] s = (s, .refused .noSuchSlot 0) := if_pos h

theorem reqOpenSlot_inUse (h : n.toNat ≤ 31) (hp : (s.slot n.toNat).state = .locked) :
    reqOpenSlot [n] s = (s, .refused .inUse 0) := by
  rw [reqOpenSlot, if_neg (by omega), if_pos hp]

theorem reqOpenSlot_done (h : n.toNat ≤ 31) (hp : (s.slot n.toNat).state ≠ .locked) :
    reqOpenSlot [n] s = ({ s with pat := s.pat.set n.toNat (slotOpened (s.slot n.toNat)) }, .done []) := by
  rw [reqOpenSlot, if_neg (by omega), if_neg hp, modSlot_eq_set]

theorem reqReleaseSlot_noSuchSlot (h : 31 < n.toNat) : reqReleaseSlot [n] s = (s, .refused .noSuchSlot 0) := if_pos h

theorem reqReleaseSlot_inUse (h : n.toNat ≤ 31) (hp : (s.slot n.toNat).state = .locked) :
    reqReleaseSlot [n] s = (s, .refused .inUse 0) := by
  rw [reqReleaseSlot, if_neg (by omega), hp]

theorem reqReleaseSlot_done (h : n.toNat ≤ 31)
    (hp : (s.slot n.toNat).state = .opened ∨ (s.slot n.toNat).state = .ready) :
    reqReleaseSlot [n] s = ({ s with pat := s.pat.set n.toNat (slotFreed (s.slot n.toNat)) }, .done []) := by
  rw [reqReleaseSlot, if_neg (by omega), ← modSlot_eq_set]
  rcases hp with hp | hp <;> rw [hp]

/-- Releasing a FREE slot changes nothing (R34). -/
theorem reqReleaseSlot_free (h : n.toNat ≤ 31) (hp : (s.slot n.toNat).state = .free) :
    reqReleaseSlot [n] s = (s, .done []) := by
  rw [reqReleaseSlot, if_neg (by omega), hp]

end

/-! ### WRITE_ENTRIES (R25) -/

theorem reqWriteEntries_malformed {args : List Word} (s : State)
    (h : args.length < 4 ∨ 16 < args.length ∨ args.length % 2 = 1) :
    reqWriteEntries args s = (s, .malformed) := by
  match args, h with
  | [], _ => rfl
  | [_], _ => rfl
  | n :: first :: ws, h =>
    simp only [List.length_cons] at h
    exact if_pos (by omega)

section
variable {n first : Word} {es : List (Word × Word)} {s : State}

/-- One to seven entries have the form of the request; the checks left are the slot's and the last index's. -/
theorem reqWriteEntries_entries (h1 : 1 ≤ es.length) (h7 : es.length ≤ 7) :
    reqWriteEntries (n :: first :: es.flatMap fun e => [e.1, e.2]) s =
      if 31 < n.toNat then (s, .refused .noSuchSlot 0)
      else if (s.slot n.toNat).state ≠ .opened then (s, .refused .notOpen 0)
      else if 63 < first.toNat + es.length - 1 then (s, .refused .outOfRange 0)
      else (modSlot n.toNat (storeEntries es first.toNat) s, .done []) := by
  have hhalf : 2 * es.length / 2 = es.length := by omega
  rw [reqWriteEntries, length_flatMap_pair, wordPairs_flatMap, if_neg (by omega), hhalf]

variable {r : Request}

/-- One to seven entries reach the owner. -/
theorem exec_writeEntries_of_req {t : State} {a : Answer} (hb : s.ring.bypass = false)
    (hr : r.args = n :: first :: es.flatMap fun e => [e.1, e.2]) (h7 : es.length ≤ 7)
    (h : reqWriteEntries (n :: first :: es.flatMap fun e => [e.1, e.2]) s = (t, a)) :
    exec (.writeEntries r) s = .next (reply 12 r a t) := by
  have hlen : r.args.length ≤ 16 := by
    rw [hr, List.length_cons, List.length_cons, length_flatMap_pair]
    omega
  rw [exec_writeEntries, serve_of_req hb hlen (hr ▸ h)]

end

/-! ### The three requests -/

/-- The forms that are MALFORMED (R24, R25, R34). -/
theorem exec_slotRequests_malformed (r : Request) (s : State) (hb : s.ring.bypass = false) :
    (r.args.length ≠ 1 →
      exec (.openSlot r) s = .next (reply 11 r .malformed s) ∧
      exec (.releaseSlot r) s = .next (reply 14 r .malformed s)) ∧
    (r.args.length < 4 ∨ 16 < r.args.length ∨ r.args.length % 2 = 1 →
      exec (.writeEntries r) s = .next (reply 12 r .malformed s)) := by
  refine ⟨fun h => ⟨?_, ?_⟩, fun h => ?_⟩
  · rw [exec_openSlot, serve_malformed hb (reqOpenSlot_malformed s h)]
  · rw [exec_releaseSlot, serve_malformed hb (reqReleaseSlot_malformed s h)]
  · rw [exec_writeEntries, serve_malformed hb (reqWriteEntries_malformed s h)]

section
variable {r : Request} {n : Word} {s t : State} {a : Answer}

/-- A request of one word reaches the owner. -/
theorem exec_openSlot_of_req (hb : s.ring.bypass = false) (hr : r.args = [n]) (h : reqOpenSlot [n] s = (t, a)) :
    exec (.openSlot r) s = .next (reply 11 r a t) := by
  rw [exec_openSlot, serve_of_req hb (by simp [hr]) (hr ▸ h)]

theorem exec_releaseSlot_of_req (hb : s.ring.bypass = false) (hr : r.args = [n])
    (h : reqReleaseSlot [n] s = (t, a)) : exec (.releaseSlot r) s = .next (reply 14 r a t) := by
  rw [exec_releaseSlot, serve_of_req hb (by simp [hr]) (hr ▸ h)]

end

/-- Settles O49: each request answers as its owner's first failing check says; the effects are a slot made new with its
use count kept, and `storeEntries`, whose entries and written-index set are said index by index. -/
theorem slotsLoaded : Obligations.SlotsLoaded := by
  refine ⟨exec_slotRequests_malformed, ?_, ?_⟩
  · rintro r s n _ hb hr rfl
    refine ⟨fun h => ⟨?_, ?_⟩, fun h => ⟨fun hp => ⟨?_, ?_⟩, fun hp => ?_, fun hp => ?_, fun hp => ?_⟩⟩
    · exact exec_openSlot_of_req hb hr (reqOpenSlot_noSuchSlot h)
    · exact exec_releaseSlot_of_req hb hr (reqReleaseSlot_noSuchSlot h)
    · exact exec_openSlot_of_req hb hr (reqOpenSlot_inUse h hp)
    · exact exec_releaseSlot_of_req hb hr (reqReleaseSlot_inUse h hp)
    · exact exec_openSlot_of_req hb hr (reqOpenSlot_done h hp)
    · exact exec_releaseSlot_of_req hb hr (reqReleaseSlot_done h hp)
    · exact exec_releaseSlot_of_req hb hr (reqReleaseSlot_free h hp)
  · rintro r s n first es _ hb hr h1 h7 rfl
    have hreq := reqWriteEntries_entries (n := n) (first := first) (s := s) h1 h7
    refine ⟨fun hn => ?_, fun hn hp => ?_, fun hn hp hlast => ?_, fun hn hp hlast => ?_⟩
    · exact exec_writeEntries_of_req hb hr h7 (hreq.trans (if_pos hn))
    · refine exec_writeEntries_of_req hb hr h7 (hreq.trans ?_)
      rw [if_neg (by omega), if_pos hp]
    · refine exec_writeEntries_of_req hb hr h7 (hreq.trans ?_)
      rw [if_neg (by omega), if_neg (not_not_intro hp), if_pos hlast]
    · refine ⟨storeEntries es first.toNat (s.slot n.toNat), exec_writeEntries_of_req hb hr h7 (hreq.trans ?_),
        length_entries_storeEntries .., fun i hi => getElem?_entries_storeEntries _ _ _ hi,
        fun i hi => getLsbD_written_storeEntries _ _ _ hi, storeEntries_eq ..⟩
      rw [if_neg (by omega), if_neg (not_not_intro hp), if_neg (by omega), modSlot_eq_set]

end Sys2Proof.Machine
end

section
/-! READ_VIEW (R202): the part read of a view, and the forms that are MALFORMED. -/
namespace Sys2Proof.Machine

theorem exec_readView (r : Request) (s : State) : exec (.readView r) s = .next (serve 26 reqReadView r s) := rfl

/-! ### The views that have records -/

/-- Only PLAN, SETMAP and CELLS have records. -/
theorem viewRecords_eq_none {view : Nat} (s : State) (h1 : view ≠ 1) (h2 : view ≠ 2) (h3 : view ≠ 3) :
    viewRecords view s = none := by
  unfold viewRecords
  split
  · exact absurd rfl h1
  · exact absurd rfl h2
  · exact absurd rfl h3
  · rfl

/-! ### The owner's answer, form by form -/

theorem reqReadView_malformed {args : List Word} (s : State) (h : args.length ≠ 3) :
    reqReadView args s = (s, .malformed) := by
  unfold reqReadView
  split
  next heq => exact absurd (by simpa using congrArg List.length heq) h
  next => rfl

section
variable {view part first : Word} {s : State}

theorem reqReadView_outOfRange (h : 6 < view.toNat ∨ 1 < part.toNat) :
    reqReadView [view, part, first] s = (s, .malformed) := if_pos h

theorem reqReadView_image (h : ¬(6 < view.toNat ∨ 1 < part.toNat)) (hp : part = 0) :
    reqReadView [view, part, first] s = (s, .done (((viewImage view.toNat s).drop first.toNat).take 16)) := by
  subst hp
  exact if_neg h

theorem reqReadView_noRecords (h : ¬(6 < view.toNat ∨ 1 < part.toNat)) (hp : part.toNat ≠ 0)
    (hv : viewRecords view.toNat s = none) : reqReadView [view, part, first] s = (s, .malformed) := by
  simp only [reqReadView, List.map_cons, List.map_nil, if_neg h, if_neg hp, hv]

/-- The records read are those of the view's own list, from `first` on, as many as fit. -/
theorem reqReadView_records {α : Type} {fit : Nat} {l : List α} {words : α → List Word}
    (h : ¬(6 < view.toNat ∨ 1 < part.toNat)) (hp : part.toNat ≠ 0)
    (hv : viewRecords view.toNat s = some (fit, l.map words)) :
    reqReadView [view, part, first] s =
      (s, .done (word l.length :: ((l.drop first.toNat).take fit).flatMap words)) := by
  simp only [reqReadView, List.map_cons, List.map_nil, if_neg h, if_neg hp, hv, List.length_map, ← List.map_drop,
    ← List.map_take, ← List.flatMap_def]

end

/-! ### The request -/

/-- A request of three words reaches the owner, which leaves the state as it is. -/
theorem exec_readView_of_req {r : Request} {view part first : Word} {s : State} {a : Answer}
    (hb : s.ring.bypass = false) (hr : r.args = [view, part, first])
    (h : reqReadView [view, part, first] s = (s, a)) : exec (.readView r) s = .next (reply 26 r a s) := by
  rw [exec_readView, serve_of_req hb (by simp [hr]) (hr ▸ h)]

/-- Settles O43: one case for each branch of R202, and in part 1 one for each view that has records. -/
theorem viewsRead : Obligations.ViewsRead := by
  intro r s hb
  refine ⟨fun view part first hr => exec_readView_of_req hb hr ?_, fun h => ?_⟩
  · split
    next h => exact reqReadView_outOfRange h
    next h =>
      split
      next hp => exact reqReadView_image h hp
      next hp =>
        have hp : part.toNat ≠ 0 := fun h0 => hp (BitVec.eq_of_toNat_eq h0)
        split
        next hv => exact reqReadView_records h hp (by rw [hv]; rfl)
        next hv => exact reqReadView_records h hp (by rw [hv]; rfl)
        next hv => exact reqReadView_records h hp (by rw [hv]; rfl)
        next h1 h2 h3 => exact reqReadView_noRecords h hp (viewRecords_eq_none s h1 h2 h3)
  · rw [exec_readView, serve_malformed hb (reqReadView_malformed s h)]

end Sys2Proof.Machine
end
